-- ==== Sys2Proof/Word.lean ====
section
/-! DEFINITION. The words of the Hydrogen core (spec/00_scope.md R6, R7): a data word is a byte, an instruction word has
16 bits, a register is named by a 3-bit field (spec/30_encoding.md R75). Bit 0 is the least significant bit. -/

namespace Sys2Proof

/-- The data word: 8 bits (R6). -/
abbrev Byte := BitVec 8

/-- The instruction word, and the width of `pc` and of a call-stack entry: 16 bits (R6). -/
abbrev Word := BitVec 16

/-- The number of a general register, a 3-bit field (R75). -/
abbrev RegIx := BitVec 3

end Sys2Proof
end

