-- ==== Sys2Proof/Syntax.lean ====
section
/-! DEFINITION. The instructions of the Hydrogen core: one constructor for each of the 76 rows of spec/opcode_table.json, with
the operand fields of the row's class (spec/30_encoding.md R72, R81). Every field has the width of its place in the word, so a
term holds exactly what an encoding can hold. A field that the class has but the row does not use (`x` of POP.2, POP.3, PSH.2,
PSH.3 and both fields of MOV.2, MOV.3; the value of SYS.7) is kept, because the decoder extracts it (R71, R86). -/

namespace Sys2Proof

/-- An instruction. `x`, `y`, `z` name registers; `v` is an immediate, `a` an 11-bit address, `o` a 6-bit offset, `c` a
condition code, `p` a port, `k` an internal-register index, `f` a frame offset, `n` a 3-bit immediate. -/
inductive Instr where
  | nop
  | hlt0
  | hlt1
  | hlt2
  | hlt3
  | sys0 (v : Byte)
  | sys1 (v : Byte)
  | sys2 (v : Byte)
  | sys3 (v : Byte)
  | sys4 (v : Byte)
  | sys5 (v : Byte)
  | sys6 (v : Byte)
  | sys7 (v : Byte)
  | ldc (x : RegIx) (c : BitVec 3) (v : BitVec 5)
  | jmp (a : BitVec 11)
  | brc (c : BitVec 3) (o : BitVec 6)
  | cal (a : BitVec 11)
  | ret0
  | ret1
  | inp (x : RegIx) (p : Byte)
  | out (x : RegIx) (p : Byte)
  | lds (x : RegIx) (k : BitVec 3)
  | sts (x : RegIx) (k : BitVec 3)
  | pop0 (x : RegIx) (f : BitVec 3)
  | pop1 (x : RegIx) (f : BitVec 3)
  | pop2 (x : RegIx) (f : BitVec 3)
  | pop3 (x : RegIx) (f : BitVec 3)
  | psh0 (x : RegIx) (f : BitVec 3)
  | psh1 (x : RegIx) (f : BitVec 3)
  | psh2 (x : RegIx) (f : BitVec 3)
  | psh3 (x : RegIx) (f : BitVec 3)
  | mld (x : RegIx) (o : BitVec 6)
  | mst (x : RegIx) (o : BitVec 6)
  | ldi (x : RegIx) (v : Byte)
  | mov0 (x y : RegIx)
  | mov1 (x y : RegIx)
  | mov2 (x y : RegIx)
  | mov3 (x y : RegIx)
  | adi (x : RegIx) (v : Byte)
  | ani (x : RegIx) (v : Byte)
  | ori (x : RegIx) (v : Byte)
  | xri (x : RegIx) (v : Byte)
  | cpi (x : RegIx) (v : Byte)
  | tsi (x : RegIx) (v : Byte)
  | add (x y z : RegIx)
  | adc (x y z : RegIx)
  | vad (x y z : RegIx)
  | vac (x y z : RegIx)
  | sub (x y z : RegIx)
  | sbb (x y z : RegIx)
  | vsb (x y z : RegIx)
  | vsc (x y z : RegIx)
  | or (x y z : RegIx)
  | and (x y z : RegIx)
  | xor (x y z : RegIx)
  | imp (x y z : RegIx)
  | nor (x y z : RegIx)
  | nand (x y z : RegIx)
  | xnor (x y z : RegIx)
  | nimp (x y z : RegIx)
  | lsl (x y z : RegIx)
  | lsr (x y z : RegIx)
  | rol (x y z : RegIx)
  | asr (x y z : RegIx)
  | lsli (x y : RegIx) (n : BitVec 3)
  | lsri (x y : RegIx) (n : BitVec 3)
  | roli (x y : RegIx) (n : BitVec 3)
  | asri (x y : RegIx) (n : BitVec 3)
  | muli (x y : RegIx) (n : BitVec 3)
  | muhi (x y : RegIx) (n : BitVec 3)
  | divi (x y : RegIx) (n : BitVec 3)
  | modi (x y : RegIx) (n : BitVec 3)
  | sqrt (x y : RegIx)
  | clz (x y : RegIx)
  | ctz (x y : RegIx)
  | popc (x y : RegIx)
  deriving DecidableEq, Repr

end Sys2Proof
end

