-- ==== Sys2Proof/WellFormed.lean ====
section
/-! DEFINITION. The decoder's record (spec/30_encoding.md R71) and when it is well formed for its class (R72): each field fits
the place the class gives it, and a field the class does not define is 0. A term of `Instr` needs no such check: the type of each
of its fields is as wide as its place in the word. -/

namespace Sys2Proof

/-- The nine operand-field layouts of R72 (ten rows: the subtype-only class has a 1-bit and a 2-bit form). -/
inductive OpClass where
  | n
  | s1
  | s2
  | ri8
  | rrr
  | w11
  | r6
  | rr
  | rrt
  | rrtz
  deriving DecidableEq, Repr

/-- The Instruction record of R71: "opcode (5 bits), subtype, and up to three operand fields …, plus the raw 16-bit word", each
field wide enough for its widest use. The field `kind` is the spec's `type`. -/
structure Fields where
  op   : BitVec 5
  kind : BitVec 2
  x    : BitVec 11
  y    : BitVec 8
  z    : BitVec 5
  raw  : Word
  deriving DecidableEq, Repr

/-- How many bits of field `x` the class defines (R72). -/
def OpClass.xBits : OpClass → Nat
  | .w11 => 11
  | .n | .s1 | .s2 => 0
  | .ri8 | .rrr | .r6 | .rr | .rrt | .rrtz => 3

/-- How many bits of field `y` the class defines (R72). -/
def OpClass.yBits : OpClass → Nat
  | .ri8 => 8
  | .r6 => 6
  | .rrr | .rr | .rrt | .rrtz => 3
  | .n | .s1 | .s2 | .w11 => 0

/-- How many bits of the subtype the class defines (R72). -/
def OpClass.kindBits : OpClass → Nat
  | .s1 => 1
  | .s2 | .rrt | .rrtz => 2
  | .n | .ri8 | .rrr | .w11 | .r6 | .rr => 0

/-- How many bits of field `z` the class defines (R72). -/
def OpClass.zBits : OpClass → Nat
  | .rrr => 5
  | .rrtz => 3
  | .n | .s1 | .s2 | .ri8 | .w11 | .r6 | .rr | .rrt => 0

/-- Field `x` fits its place (R72). -/
def Fields.xFits (c : OpClass) (f : Fields) : Bool := f.x.toNat < 2 ^ c.xBits

/-- Field `y` fits its place (R72). -/
def Fields.yFits (c : OpClass) (f : Fields) : Bool := f.y.toNat < 2 ^ c.yBits

/-- The subtype fits its place (R72). -/
def Fields.kindFits (c : OpClass) (f : Fields) : Bool := f.kind.toNat < 2 ^ c.kindBits

/-- Field `z` fits its place (R72). -/
def Fields.zFits (c : OpClass) (f : Fields) : Bool := f.z.toNat < 2 ^ c.zBits

/-- A record is well formed for class `c`: every field fits, and so a field `c` does not define is 0 (R71, R72). -/
def Fields.wf (c : OpClass) (f : Fields) : Bool :=
  f.xFits c && f.yFits c && f.kindFits c && f.zFits c

end Sys2Proof
end

