-- ==== Sys2Proof/Decode.lean ====
section
/-! DEFINITION. The decoder and its inverse (spec/30_encoding.md R70 to R86), both read off ONE table of 32 rows, `opmap` (R73,
R80), and the ROM image format (spec/20_memory.md R57). Decoding a word is total and touches no machine state (R70); the only
thing rejected, by name, is a byte stream that is no ROM image. -/

namespace Sys2Proof

/-- Bits `lo + w - 1` down to `lo` of an instruction word. -/
def slice (w : Word) (lo len : Nat) : BitVec len := w.extractLsb' lo len

/-- One of four results, by the 2-bit subtype. -/
def pick4 {α : Type} (k : BitVec 2) (a b c d : α) : α :=
  match k.toNat with
  | 0 => a
  | 1 => b
  | 2 => c
  | _ => d

/-- Field `x` as a register number or condition code: its low 3 bits. -/
def Fields.x3 (f : Fields) : BitVec 3 := f.x.setWidth 3

/-- Field `y` as a register number, internal-register index, condition code or frame offset: its low 3 bits. -/
def Fields.y3 (f : Fields) : BitVec 3 := f.y.setWidth 3

/-- Field `y` as a 6-bit offset. -/
def Fields.y6 (f : Fields) : BitVec 6 := f.y.setWidth 6

/-- Field `z` as a register number or 3-bit immediate. -/
def Fields.z3 (f : Fields) : BitVec 3 := f.z.setWidth 3

/-- The sub-operation of SYS, by field `x` (R82; spec/40_system.md R111). -/
def sysOf (f : Fields) : Instr :=
  match f.x3.toNat with
  | 0 => .sys0 f.y
  | 1 => .sys1 f.y
  | 2 => .sys2 f.y
  | 3 => .sys3 f.y
  | 4 => .sys4 f.y
  | 5 => .sys5 f.y
  | 6 => .sys6 f.y
  | _ => .sys7 f.y

/-- A three-register operation with its variant in the subtype (R81, opcodes 24 to 27 and 28 to 30). -/
def variantOf (a b c d : RegIx → RegIx → BitVec 3 → Instr) (f : Fields) : Instr :=
  pick4 f.kind a b c d f.x3 f.y3 f.z3

/-- A two-field operation with its variant in the subtype (R81, opcodes 12, 13, 17, 31). -/
def variantOf2 (a b c d : RegIx → BitVec 3 → Instr) (f : Fields) : Instr :=
  pick4 f.kind a b c d f.x3 f.y3

/-- A row of the opcode map: the class of an opcode and the operation its fields stand for. -/
structure OpRow where
  cls   : OpClass
  instr : Fields → Instr

/-- `OPMAP` (R80), the row of opcode `n` at position `n`, with the roles of the fields (R81). -/
def opmap : List OpRow := [
  ⟨.n, fun _ => .nop⟩,
  ⟨.s2, fun f => pick4 f.kind .hlt0 .hlt1 .hlt2 .hlt3⟩,
  ⟨.ri8, sysOf⟩,
  ⟨.rrr, fun f => .ldc f.x3 f.y3 f.z⟩,
  ⟨.w11, fun f => .jmp f.x⟩,
  ⟨.r6, fun f => .brc f.x3 f.y6⟩,
  ⟨.w11, fun f => .cal f.x⟩,
  ⟨.s1, fun f => if f.kind = 0 then .ret0 else .ret1⟩,
  ⟨.ri8, fun f => .inp f.x3 f.y⟩,
  ⟨.ri8, fun f => .out f.x3 f.y⟩,
  ⟨.rr, fun f => .lds f.x3 f.y3⟩,
  ⟨.rr, fun f => .sts f.x3 f.y3⟩,
  ⟨.rrt, variantOf2 .pop0 .pop1 .pop2 .pop3⟩,
  ⟨.rrt, variantOf2 .psh0 .psh1 .psh2 .psh3⟩,
  ⟨.r6, fun f => .mld f.x3 f.y6⟩,
  ⟨.r6, fun f => .mst f.x3 f.y6⟩,
  ⟨.ri8, fun f => .ldi f.x3 f.y⟩,
  ⟨.rrt, variantOf2 .mov0 .mov1 .mov2 .mov3⟩,
  ⟨.ri8, fun f => .adi f.x3 f.y⟩,
  ⟨.ri8, fun f => .ani f.x3 f.y⟩,
  ⟨.ri8, fun f => .ori f.x3 f.y⟩,
  ⟨.ri8, fun f => .xri f.x3 f.y⟩,
  ⟨.ri8, fun f => .cpi f.x3 f.y⟩,
  ⟨.ri8, fun f => .tsi f.x3 f.y⟩,
  ⟨.rrtz, variantOf .add .adc .vad .vac⟩,
  ⟨.rrtz, variantOf .sub .sbb .vsb .vsc⟩,
  ⟨.rrtz, variantOf .or .and .xor .imp⟩,
  ⟨.rrtz, variantOf .nor .nand .xnor .nimp⟩,
  ⟨.rrtz, variantOf .lsl .lsr .rol .asr⟩,
  ⟨.rrtz, variantOf .lsli .lsri .roli .asri⟩,
  ⟨.rrtz, variantOf .muli .muhi .divi .modi⟩,
  ⟨.rrt, variantOf2 .sqrt .clz .ctz .popc⟩]

/-- The row of an opcode; one that the map does not list is a no-op of class `N` (R83; none under this map). -/
def opRow (op : BitVec 5) : OpRow := opmap.getD op.toNat ⟨.n, fun _ => .nop⟩

/-- The class of an opcode: it depends on the opcode alone (R73). -/
def classOf (op : BitVec 5) : OpClass := (opRow op).cls

/-- The fields of a word under a class (R72); a field the class does not define is 0 (R71). -/
def extractFields (c : OpClass) (w : Word) : Fields :=
  let base : Fields := ⟨slice w 11 5, 0, 0, 0, 0, w⟩
  let x3 : BitVec 11 := (slice w 8 3).setWidth 11
  let y3 : BitVec 8 := (slice w 5 3).setWidth 8
  match c with
  | .n => base
  | .s1 => { base with kind := (slice w 0 1).setWidth 2 }
  | .s2 => { base with kind := slice w 0 2 }
  | .ri8 => { base with x := x3, y := slice w 0 8 }
  | .rrr => { base with x := x3, y := y3, z := slice w 0 5 }
  | .w11 => { base with x := slice w 0 11 }
  | .r6 => { base with x := x3, y := (slice w 0 6).setWidth 8 }
  | .rr => { base with x := x3, y := y3 }
  | .rrt => { base with x := x3, y := y3, kind := slice w 3 2 }
  | .rrtz => { base with x := x3, y := y3, kind := slice w 3 2, z := (slice w 0 3).setWidth 5 }

/-- The decoder's record of a word (R70, R71). -/
def decodeFields (w : Word) : Fields := extractFields (classOf (slice w 11 5)) w

/-- The instruction a word stands for. Total: every word decodes (R70). -/
def decode (w : Word) : Instr := (opRow (slice w 11 5)).instr (decodeFields w)

/-- The word of a record: the opcode in bits 15:11, each defined field at its place, 0 in ignored bits (R86). -/
def encodeFields (f : Fields) : Word :=
  match classOf f.op with
  | .n => f.op ++ 0#11
  | .s1 => f.op ++ 0#10 ++ f.kind.setWidth 1
  | .s2 => f.op ++ 0#9 ++ f.kind
  | .ri8 => f.op ++ f.x3 ++ f.y
  | .rrr => f.op ++ f.x3 ++ f.y3 ++ f.z
  | .w11 => f.op ++ f.x
  | .r6 => f.op ++ f.x3 ++ 0#2 ++ f.y6
  | .rr => f.op ++ f.x3 ++ f.y3 ++ 0#5
  | .rrt => f.op ++ f.x3 ++ f.y3 ++ f.kind ++ 0#3
  | .rrtz => f.op ++ f.x3 ++ f.y3 ++ f.kind ++ f.z3

/-- A record with the given fields, its raw word not yet known. -/
def mkFields (op : BitVec 5) (kind : BitVec 2) (x : BitVec 11) (y : BitVec 8) (z : BitVec 5) : Fields :=
  ⟨op, kind, x, y, z, 0⟩

/-- The record of an instruction with a register (or code) in `x` and a byte in `y`. -/
def fieldsXB (op : BitVec 5) (x : BitVec 3) (y : Byte) : Fields := mkFields op 0 (x.setWidth 11) y 0

/-- The record of an instruction with 3-bit fields `x` and `y` and a subtype. -/
def fieldsXY (op : BitVec 5) (kind : BitVec 2) (x y : BitVec 3) : Fields :=
  mkFields op kind (x.setWidth 11) (y.setWidth 8) 0

/-- The record of an instruction with 3-bit fields `x`, `y`, `z` and a subtype. -/
def fieldsXYZ (op : BitVec 5) (kind : BitVec 2) (x y z : BitVec 3) : Fields :=
  mkFields op kind (x.setWidth 11) (y.setWidth 8) (z.setWidth 5)

/-- The record of an instruction: its opcode number (R80), subtype and fields (R81). -/
def Instr.fields : Instr → Fields
  | .nop => mkFields 0 0 0 0 0
  | .hlt0 => mkFields 1 0 0 0 0
  | .hlt1 => mkFields 1 1 0 0 0
  | .hlt2 => mkFields 1 2 0 0 0
  | .hlt3 => mkFields 1 3 0 0 0
  | .sys0 v => fieldsXB 2 0 v
  | .sys1 v => fieldsXB 2 1 v
  | .sys2 v => fieldsXB 2 2 v
  | .sys3 v => fieldsXB 2 3 v
  | .sys4 v => fieldsXB 2 4 v
  | .sys5 v => fieldsXB 2 5 v
  | .sys6 v => fieldsXB 2 6 v
  | .sys7 v => fieldsXB 2 7 v
  | .ldc x c v => mkFields 3 0 (x.setWidth 11) (c.setWidth 8) v
  | .jmp a => mkFields 4 0 a 0 0
  | .brc c o => fieldsXB 5 c (o.setWidth 8)
  | .cal a => mkFields 6 0 a 0 0
  | .ret0 => mkFields 7 0 0 0 0
  | .ret1 => mkFields 7 1 0 0 0
  | .inp x p => fieldsXB 8 x p
  | .out x p => fieldsXB 9 x p
  | .lds x k => fieldsXY 10 0 x k
  | .sts x k => fieldsXY 11 0 x k
  | .pop0 x f => fieldsXY 12 0 x f
  | .pop1 x f => fieldsXY 12 1 x f
  | .pop2 x f => fieldsXY 12 2 x f
  | .pop3 x f => fieldsXY 12 3 x f
  | .psh0 x f => fieldsXY 13 0 x f
  | .psh1 x f => fieldsXY 13 1 x f
  | .psh2 x f => fieldsXY 13 2 x f
  | .psh3 x f => fieldsXY 13 3 x f
  | .mld x o => fieldsXB 14 x (o.setWidth 8)
  | .mst x o => fieldsXB 15 x (o.setWidth 8)
  | .ldi x v => fieldsXB 16 x v
  | .mov0 x y => fieldsXY 17 0 x y
  | .mov1 x y => fieldsXY 17 1 x y
  | .mov2 x y => fieldsXY 17 2 x y
  | .mov3 x y => fieldsXY 17 3 x y
  | .adi x v => fieldsXB 18 x v
  | .ani x v => fieldsXB 19 x v
  | .ori x v => fieldsXB 20 x v
  | .xri x v => fieldsXB 21 x v
  | .cpi x v => fieldsXB 22 x v
  | .tsi x v => fieldsXB 23 x v
  | .add x y z => fieldsXYZ 24 0 x y z
  | .adc x y z => fieldsXYZ 24 1 x y z
  | .vad x y z => fieldsXYZ 24 2 x y z
  | .vac x y z => fieldsXYZ 24 3 x y z
  | .sub x y z => fieldsXYZ 25 0 x y z
  | .sbb x y z => fieldsXYZ 25 1 x y z
  | .vsb x y z => fieldsXYZ 25 2 x y z
  | .vsc x y z => fieldsXYZ 25 3 x y z
  | .or x y z => fieldsXYZ 26 0 x y z
  | .and x y z => fieldsXYZ 26 1 x y z
  | .xor x y z => fieldsXYZ 26 2 x y z
  | .imp x y z => fieldsXYZ 26 3 x y z
  | .nor x y z => fieldsXYZ 27 0 x y z
  | .nand x y z => fieldsXYZ 27 1 x y z
  | .xnor x y z => fieldsXYZ 27 2 x y z
  | .nimp x y z => fieldsXYZ 27 3 x y z
  | .lsl x y z => fieldsXYZ 28 0 x y z
  | .lsr x y z => fieldsXYZ 28 1 x y z
  | .rol x y z => fieldsXYZ 28 2 x y z
  | .asr x y z => fieldsXYZ 28 3 x y z
  | .lsli x y n => fieldsXYZ 29 0 x y n
  | .lsri x y n => fieldsXYZ 29 1 x y n
  | .roli x y n => fieldsXYZ 29 2 x y n
  | .asri x y n => fieldsXYZ 29 3 x y n
  | .muli x y n => fieldsXYZ 30 0 x y n
  | .muhi x y n => fieldsXYZ 30 1 x y n
  | .divi x y n => fieldsXYZ 30 2 x y n
  | .modi x y n => fieldsXYZ 30 3 x y n
  | .sqrt x y => fieldsXY 31 0 x y
  | .clz x y => fieldsXY 31 1 x y
  | .ctz x y => fieldsXY 31 2 x y
  | .popc x y => fieldsXY 31 3 x y

/-- The word of an instruction, 0 in ignored bits (R86). -/
def encode (i : Instr) : Word := encodeFields i.fields

/-- The ignored bits of a class (R72): a 1 where the class assigns the bit to no field. -/
def ignoredBits : OpClass → Word
  | .n => 0x07FF
  | .s1 => 0x07FE
  | .s2 => 0x07FC
  | .ri8 | .rrr | .w11 | .rrtz => 0
  | .r6 => 0x00C0
  | .rr => 0x001F
  | .rrt => 0x0007

/-- The row of spec/opcode_table.json that an instruction belongs to: the mask of its fixed bits and their values (R80, R81). -/
def Instr.row : Instr → Word × Word
  | .nop => (0xF800, 0x0000)
  | .hlt0 => (0xF803, 0x0800)
  | .hlt1 => (0xF803, 0x0801)
  | .hlt2 => (0xF803, 0x0802)
  | .hlt3 => (0xF803, 0x0803)
  | .sys0 _ => (0xFF00, 0x1000)
  | .sys1 _ => (0xFF00, 0x1100)
  | .sys2 _ => (0xFF00, 0x1200)
  | .sys3 _ => (0xFF00, 0x1300)
  | .sys4 _ => (0xFF00, 0x1400)
  | .sys5 _ => (0xFF00, 0x1500)
  | .sys6 _ => (0xFF00, 0x1600)
  | .sys7 _ => (0xFF00, 0x1700)
  | .ldc _ _ _ => (0xF800, 0x1800)
  | .jmp _ => (0xF800, 0x2000)
  | .brc _ _ => (0xF800, 0x2800)
  | .cal _ => (0xF800, 0x3000)
  | .ret0 => (0xF801, 0x3800)
  | .ret1 => (0xF801, 0x3801)
  | .inp _ _ => (0xF800, 0x4000)
  | .out _ _ => (0xF800, 0x4800)
  | .lds _ _ => (0xF800, 0x5000)
  | .sts _ _ => (0xF800, 0x5800)
  | .pop0 _ _ => (0xF818, 0x6000)
  | .pop1 _ _ => (0xF818, 0x6008)
  | .pop2 _ _ => (0xF818, 0x6010)
  | .pop3 _ _ => (0xF818, 0x6018)
  | .psh0 _ _ => (0xF818, 0x6800)
  | .psh1 _ _ => (0xF818, 0x6808)
  | .psh2 _ _ => (0xF818, 0x6810)
  | .psh3 _ _ => (0xF818, 0x6818)
  | .mld _ _ => (0xF800, 0x7000)
  | .mst _ _ => (0xF800, 0x7800)
  | .ldi _ _ => (0xF800, 0x8000)
  | .mov0 _ _ => (0xF818, 0x8800)
  | .mov1 _ _ => (0xF818, 0x8808)
  | .mov2 _ _ => (0xF818, 0x8810)
  | .mov3 _ _ => (0xF818, 0x8818)
  | .adi _ _ => (0xF800, 0x9000)
  | .ani _ _ => (0xF800, 0x9800)
  | .ori _ _ => (0xF800, 0xA000)
  | .xri _ _ => (0xF800, 0xA800)
  | .cpi _ _ => (0xF800, 0xB000)
  | .tsi _ _ => (0xF800, 0xB800)
  | .add _ _ _ => (0xF818, 0xC000)
  | .adc _ _ _ => (0xF818, 0xC008)
  | .vad _ _ _ => (0xF818, 0xC010)
  | .vac _ _ _ => (0xF818, 0xC018)
  | .sub _ _ _ => (0xF818, 0xC800)
  | .sbb _ _ _ => (0xF818, 0xC808)
  | .vsb _ _ _ => (0xF818, 0xC810)
  | .vsc _ _ _ => (0xF818, 0xC818)
  | .or _ _ _ => (0xF818, 0xD000)
  | .and _ _ _ => (0xF818, 0xD008)
  | .xor _ _ _ => (0xF818, 0xD010)
  | .imp _ _ _ => (0xF818, 0xD018)
  | .nor _ _ _ => (0xF818, 0xD800)
  | .nand _ _ _ => (0xF818, 0xD808)
  | .xnor _ _ _ => (0xF818, 0xD810)
  | .nimp _ _ _ => (0xF818, 0xD818)
  | .lsl _ _ _ => (0xF818, 0xE000)
  | .lsr _ _ _ => (0xF818, 0xE008)
  | .rol _ _ _ => (0xF818, 0xE010)
  | .asr _ _ _ => (0xF818, 0xE018)
  | .lsli _ _ _ => (0xF818, 0xE800)
  | .lsri _ _ _ => (0xF818, 0xE808)
  | .roli _ _ _ => (0xF818, 0xE810)
  | .asri _ _ _ => (0xF818, 0xE818)
  | .muli _ _ _ => (0xF818, 0xF000)
  | .muhi _ _ _ => (0xF818, 0xF008)
  | .divi _ _ _ => (0xF818, 0xF010)
  | .modi _ _ _ => (0xF818, 0xF018)
  | .sqrt _ _ => (0xF818, 0xF800)
  | .clz _ _ => (0xF818, 0xF808)
  | .ctz _ _ => (0xF818, 0xF810)
  | .popc _ _ => (0xF818, 0xF818)

/-- The instruction the decoder reads from a table word: every instruction is one 16-bit word (R84). -/
def decodeTableWord (nbits w : Nat) : Option Instr := some (decode (BitVec.ofNat 16 (w % 2 ^ nbits)))

/-- Why a byte stream is no ROM image (spec/20_memory.md R57; spec/93_implementation_defined.md U13). -/
inductive RomError where
  /-- The stream has an odd number of bytes: the host refuses it. Safe: nothing runs. -/
  | oddLength
  /-- The image is longer than 65536 words: the host refuses it. Safe: nothing runs. -/
  | tooLong
  deriving DecidableEq, Repr

/-- The words of a byte stream, each with its high byte first (R57). -/
def packWords : List Byte → Except RomError (List Word)
  | [] => .ok []
  | [_] => .error .oddLength
  | hi :: lo :: rest =>
    match packWords rest with
    | .ok ws => .ok ((hi ++ lo) :: ws)
    | .error e => .error e

/-- A ROM image: big-endian words, at most 65536 of them (R57). -/
def romImage (bs : List Byte) : Except RomError (List Word) :=
  match packWords bs with
  | .ok ws => if ws.length ≤ 65536 then .ok ws else .error .tooLong
  | .error e => .error e

end Sys2Proof
end

