-- ==== Sys2Proof/Config.lean ====
section
/-! DEFINITION. The values the spec leaves open (spec/93_implementation_defined.md U1; spec/20_memory.md R60). Each is a
constant WITHOUT a body, applied to the count of the values drawn so far (`Machine.State.draws`), so that two draws need not
agree and nothing can be proved from one (assumption log 2 and 3; DESIGN CHOICE, safe). The parameters that have a default in the
spec are in `Machine/Params.lean`. -/

namespace Sys2Proof

/-- `DIV0_RESULT`: the result byte of a division or modulo by zero, `draw(8)` (spec/46_shift_math.md R251). -/
opaque Config.div0Result : Nat → BitVec 8

/-- `DIV0_FLAGS`: the six flags after a division or modulo by zero, `draw(6)` (R251); bits 5 to 0 are S, Z, V, A, P, C. -/
opaque Config.div0Flags : Nat → BitVec 6

/-- A call the core makes of a bound device's handlers, the device contract of spec/20_memory.md R59. -/
inductive DeviceCall where
  /-- `d.read(o)`: the port-read handler of device `d` at offset `o` (R60). -/
  | read (d o : Nat)
  /-- `d.write(o, v)`: the port-write handler of device `d` at offset `o` with data `v` (R61). -/
  | write (d o : Nat) (v : BitVec 8)
  deriving DecidableEq, Repr

/-- What a bound device's read handler does to the input latch of its port: `some v` performs `IN[p] <- v`, `none` leaves the
latch alone (R60: "may synchronously emit a write-back event"). The arguments are the count of draws, the calls the devices have had
before this one, latest first, the device and the offset of the port in the device's range: a reply may depend on all that was
written to the devices and read from them. -/
opaque Config.deviceReply : Nat → List DeviceCall → Nat → Nat → Option (BitVec 8)

end Sys2Proof
end

