-- ==== Sys2Proof/Machine/Memory.lean ====
section
/-! DEFINITION. A memory: the list of its (address, value) pairs in one canonical form, addresses strictly rising and no value 0
listed, because an address that is not listed reads as 0, the content the spec gives every memory at reset (spec/10_state.md R38;
assumption log 8). All the memories of the machine have this form: the data pool and the bank (spec/20_memory.md R41, R42), the
instruction store and its cache (R52, R53), the call stack (spec/10_state.md R25), the port latches (R58) and the vector table
(spec/60_exceptions.md R272). With `w = 8` an entry is a `Host.Cell`. -/

namespace Sys2Proof.Machine

/-- A memory of `w`-bit cells: its nonzero cells, by rising address. -/
abbrev Memory (w : Nat) := List (Nat × BitVec w)

/-- What an address that is not listed reads as: the reset content, 0 (R38). -/
def Memory.blank {w : Nat} : BitVec w := 0

/-- The value at an address. -/
def Memory.read {w : Nat} (m : Memory w) (a : Nat) : BitVec w :=
  match m with
  | [] => Memory.blank
  | (k, v) :: rest => if k = a then v else Memory.read rest a

/-- The cells of `m` below address `base`. -/
def Memory.below {w : Nat} (m : Memory w) (base : Nat) : Memory w := m.filter fun c => decide (c.1 < base)

/-- The cells of `m` at address `base` or above. -/
def Memory.upFrom {w : Nat} (m : Memory w) (base : Nat) : Memory w := m.filter fun c => decide (base ≤ c.1)

/-- The cells of `m` moved up by `base`. -/
def Memory.shiftUp {w : Nat} (m : Memory w) (base : Nat) : Memory w := m.map fun c => (base + c.1, c.2)

/-- The `size` cells of `m` from `base` on, renumbered from 0 (a page taken out of a pool). -/
def Memory.window {w : Nat} (m : Memory w) (base size : Nat) : Memory w :=
  ((m.upFrom base).below (base + size)).map fun c => (c.1 - base, c.2)

/-- `m` with its `size` cells from `base` on replaced by the cells of `page` (a page put back into a pool). -/
def Memory.splice {w : Nat} (m : Memory w) (base size : Nat) (page : Memory w) : Memory w :=
  m.below base ++ (page.below size).shiftUp base ++ m.upFrom (base + size)

/-- `m` with the value `v` at address `a`; writing what an unlisted address reads as removes the entry. -/
def Memory.write {w : Nat} (m : Memory w) (a : Nat) (v : BitVec w) : Memory w :=
  m.below a ++ (if v = Memory.blank then [] else [(a, v)]) ++ m.upFrom (a + 1)

/-- The memory that holds the values of a list at addresses 0, 1, … and 0 above it. -/
def Memory.ofList {w : Nat} (vs : List (BitVec w)) : Memory w :=
  ((List.range vs.length).zip vs).filter fun c => c.2 != Memory.blank

/-- Addresses strictly rise along the list and no listed value is the one an unlisted address reads as. -/
def Memory.sorted {w : Nat} (m : Memory w) : Bool :=
  match m with
  | [] => true
  | (k, v) :: rest => (v != Memory.blank) && rest.all (fun c => decide (k < c.1)) && Memory.sorted rest

/-- The canonical form of a memory of `size` cells. -/
def Memory.wf {w : Nat} (size : Nat) (m : Memory w) : Bool :=
  m.sorted && m.all fun c => decide (c.1 < size)

end Sys2Proof.Machine
end

