-- ==== Sys2Proof/Machine/State.lean ====
section
/-! DEFINITION. The state of the Hydrogen core (spec/10_state.md R10, which says that nothing else is state), the four fields the
model adds (`devices`, `deviceCalls`, `inputs`, `draws`: assumption log 2 to 5), the state after reset (R38; spec/70_reset_and_hazards.md R300) and
the reasons a step can stop. -/

namespace Sys2Proof.Machine

/-- The eight general registers, 8 bits each (R11). -/
structure Regs where
  r0 : Byte
  r1 : Byte
  r2 : Byte
  r3 : Byte
  r4 : Byte
  r5 : Byte
  r6 : Byte
  r7 : Byte
  deriving DecidableEq, Repr

/-- An entry of the interrupt controller's stacks: a priority, larger meaning more urgent, and a vector (spec/60_exceptions.md R273). -/
structure Irq where
  priority : Byte
  vector   : Byte
  deriving DecidableEq, Repr

/-- Whether ticks execute (R36). -/
inductive RunState where
  | running
  | paused
  | stopped
  | faulted
  deriving DecidableEq, Repr

/-- A device on the port multiplexer: it occupies the ports `base` to `base + size - 1` (spec/20_memory.md R58). -/
structure Binding where
  device : Nat
  base   : Nat
  size   : Nat
  deriving DecidableEq, Repr

/-- What the environment can do between two ticks (spec/70_reset_and_hazards.md R303, R304; assumption log 5). -/
inductive EnvEvent where
  /-- `IrqRequest(priority, vector)` (spec/60_exceptions.md R274). -/
  | irqRequest (q : Irq)
  /-- `ActivePop()` (R279). -/
  | activePop
  /-- A device's port-write notification `IN[p] <- v` (spec/20_memory.md R62). -/
  | portNotify (p v : Byte)
  /-- The host starts or resumes the clock (R304). -/
  | start
  /-- The host pauses the clock (R304). -/
  | pause
  /-- The host stops the clock (R304). -/
  | stop
  deriving DecidableEq, Repr

/-- The machine's state. The names in the comments are the spec's (R10). -/
structure State where
  /-- `R[0..7]` (R11). -/
  regs : Regs
  /-- `SW`, the status word (R16). -/
  sw : Byte
  /-- `CW`, the control word (R19). -/
  cw : Byte
  /-- The program counter, a word address (R21). -/
  pc : Word
  /-- `CS[0..63]`, the call-stack ring (R25). -/
  cs : Memory 16
  /-- `CSP`, the index of the next free entry of the ring (R25). -/
  csp : BitVec 6
  /-- `AP`, the RAM address pointer (R29). -/
  ap : Byte
  /-- `LOOP.start` (R30). -/
  loopStart : Byte
  /-- `LOOP.end` (R30). -/
  loopEnd : Byte
  /-- `LOOP.count` (R30). -/
  loopCount : Byte
  /-- `LOOP.ptr` (R30). -/
  loopPtr : Byte
  /-- `VSP`, the count of bytes on the hardware stack, 0 to 65536 (R31; assumption log 10). -/
  vsp : Nat
  /-- `POOL[0..65535]` (spec/20_memory.md R41). -/
  pool : List Host.Cell
  /-- `BANK[0..255]`, the resident data page (R42). -/
  bank : List Host.Cell
  /-- `PAGE`, the index of the resident page (R42). -/
  page : Byte
  /-- `DIRTY` (R42). -/
  dirty : Bool
  /-- `IPOOL[0..65535]` (R52). -/
  ipool : Memory 16
  /-- `ICACHE[0..63]` (R53). -/
  icache : Memory 16
  /-- `IPAGE`, the index of the cached instruction page (R53). -/
  ipage : BitVec 10
  /-- `OUT[0..255]` (R58). -/
  outLatch : List Host.Cell
  /-- `IN[0..255]` (R58). -/
  inLatch : List Host.Cell
  /-- `VT[0..NVEC-1]` (spec/60_exceptions.md R272). -/
  vt : List Host.Cell
  /-- `MASK` (R275). -/
  mask : Byte
  /-- `PEND`, the top first (R273). -/
  pend : List Irq
  /-- `ACT`, the top first (R273). -/
  act : List Irq
  /-- `RUN` (R36). -/
  run : RunState
  /-- The MODEL's own: which ports are bound to which device, the host's configuration (R58; assumption log 4). -/
  devices : List Binding
  /-- The MODEL's own: the calls the core has made of bound devices' handlers, latest first (spec/20_memory.md R60, R61; assumption
  log 3). -/
  deviceCalls : List DeviceCall
  /-- The MODEL's own: what the environment delivers before the coming ticks, one batch a tick (assumption log 5). -/
  inputs : List (List EnvEvent)
  /-- The MODEL's own: how many free values have been drawn (assumption log 2). -/
  draws : Nat
  deriving DecidableEq, Repr

/-- The state after reset (R38, R300): every value is the spec's but for the model's own last four fields (DESIGN CHOICE,
assumption log 2 to 5). -/
def State.reset : State where
  regs := ⟨0, 0, 0, 0, 0, 0, 0, 0⟩
  sw := 0x00
  cw := 0x01
  pc := 0x0000
  cs := []
  csp := 0
  ap := 0
  loopStart := 0
  loopEnd := 0
  loopCount := 0
  loopPtr := 0
  vsp := 0
  pool := []
  bank := []
  page := 0
  dirty := false
  ipool := []
  icache := []
  ipage := 0
  outLatch := []
  inLatch := []
  vt := []
  mask := 0x00
  pend := []
  act := []
  run := .paused
  devices := []
  deviceCalls := []
  inputs := []
  draws := 0

/-- Why a step stops with a fault. -/
inductive Fault where
  /-- Raised by `step` and `directExec`, in a state with `RUN = FAULTED` (and by `directExec` of the shift itself in a STOPPED machine): a register-amount shift by more than 7 has raised DomainFault, and
  only `Reset()` leaves the state (spec/60_exceptions.md R284: "A model must treat FAULTED as a fault"). Safe: the hardware
  executes nothing more either. -/
  | domainFault
  deriving DecidableEq, Repr

/-- Why a step is refused. -/
inductive Refusal where
  /-- An instruction without a meaning; no arm of `exec` answers it in this model. Safe: nothing can be proved of a run past it. -/
  | notModelled (mnemonic : String)
  deriving DecidableEq, Repr

/-- What executing an instruction, or a step, answers. -/
abbrev Result := Host.Outcome State Fault Refusal

end Sys2Proof.Machine
end

