-- ==== Sys2Proof/Machine/Flags.lean ====
section
/-! DEFINITION. The status word and everything that computes it: the flag shape `FL` (spec/45_alu.md R190, R191), the arithmetic
unit (R192 to R197), the shift unit and the math unit (spec/46_shift_math.md R230 to R235, R250 to R259) and the condition tables
(spec/41_control.md R120, R121). Operands are converted to numbers, the exact result computed and narrowed at the end. -/

namespace Sys2Proof.Machine

/-- `SW.C`, carry (spec/10_state.md R16). -/
def swC (sw : Byte) : Bool := sw.getLsbD 0

/-- `SW.E`, the error flag (R16). -/
def swE (sw : Byte) : Bool := sw.getLsbD 1

/-- `SW.P`, parity (R16). -/
def swP (sw : Byte) : Bool := sw.getLsbD 2

/-- `SW.r3`, the reserved bit (R16). -/
def swR3 (sw : Byte) : Bool := sw.getLsbD 3

/-- `SW.A`, aux-carry (R16). -/
def swA (sw : Byte) : Bool := sw.getLsbD 4

/-- `SW.V`, overflow (R16). -/
def swV (sw : Byte) : Bool := sw.getLsbD 5

/-- `SW.Z`, zero (R16). -/
def swZ (sw : Byte) : Bool := sw.getLsbD 6

/-- `SW.S`, sign (R16). -/
def swS (sw : Byte) : Bool := sw.getLsbD 7

/-- The status word with the given flags, bit 0 first (R16). -/
def packSw (c e p r3 a v z s : Bool) : Byte :=
  BitVec.ofBool s ++ BitVec.ofBool z ++ BitVec.ofBool v ++ BitVec.ofBool a ++ BitVec.ofBool r3 ++ BitVec.ofBool p
    ++ BitVec.ofBool e ++ BitVec.ofBool c

/-- `SW` with `E` set (spec/60_exceptions.md R270). -/
def setErr (sw : Byte) : Byte := sw ||| 0x02

/-- The number of 1 bits of a byte, 0 to 8 (R259). -/
def popCount (a : Byte) : Nat := ((List.range 8).filter fun i => a.getLsbD i).length

/-- `P` of a result: an even number of 1 bits (R191). -/
def parityOf (r : Byte) : Bool := popCount r % 2 == 0

/-- `FL(c, a, v, r)`: the old `SW` with `C`, `A`, `V` as given and `Z`, `S`, `P` of the result; `E` and `r3` kept (R190, R191). -/
def flagsOf (sw : Byte) (c a v : Bool) (r : Byte) : Byte :=
  packSw c (swE sw) (parityOf r) (swR3 sw) a v (r == 0) (r.getLsbD 7)

/-- What a unit answers: the result byte and the new status word (R190). -/
structure UnitOut where
  r  : Byte
  sw : Byte
  deriving DecidableEq, Repr

/-- A byte of the low 4 bits of two numbers: the high lane's above the low lane's. -/
def lanes (hi lo : Nat) : Byte := BitVec.ofNat 4 hi ++ BitVec.ofNat 4 lo

/-- The low lane of a byte, bits 3:0. -/
def lowLane (a : Byte) : Nat := a.toNat % 16

/-- The high lane of a byte, bits 7:4. -/
def highLane (a : Byte) : Nat := a.toNat / 16

/-- The signed overflow of an addition: operands of one sign, a result of the other (R192). -/
def overflowAdd (a b r : Byte) : Bool := (a.getLsbD 7 == b.getLsbD 7) && (r.getLsbD 7 != a.getLsbD 7)

/-- The signed overflow of a subtraction: operands of different signs, a result not of the first's (R193). -/
def overflowSub (a b r : Byte) : Bool := (a.getLsbD 7 != b.getLsbD 7) && (r.getLsbD 7 != a.getLsbD 7)

/-- `Add8(SW, a, b, cin)` (R192). -/
def add8 (cin : Bool) (sw a b : Byte) : UnitOut :=
  let sum := a.toNat + b.toNat + cin.toNat
  let r := BitVec.ofNat 8 sum
  ⟨r, flagsOf sw (decide (255 < sum)) (decide (15 < lowLane a + lowLane b + cin.toNat)) (overflowAdd a b r) r⟩

/-- `Sub8(SW, a, b, bin)` (R193): `C` and `A` are borrows. -/
def sub8 (bin : Bool) (sw a b : Byte) : UnitOut :=
  let r := BitVec.ofNat 8 (a.toNat + 512 - b.toNat - bin.toNat)
  ⟨r, flagsOf sw (decide (a.toNat < b.toNat + bin.toNat)) (decide (lowLane a < lowLane b + bin.toNat)) (overflowSub a b r) r⟩

/-- `VAdd8(SW, a, b, cl, ch)` (R194): two 4-bit lanes, the low lane's carry in `A`, the high lane's in `C`. -/
def vadd8 (cl ch : Bool) (sw a b : Byte) : UnitOut :=
  let lo := lowLane a + lowLane b + cl.toNat
  let hi := highLane a + highLane b + ch.toNat
  let r := lanes hi lo
  ⟨r, flagsOf sw (decide (15 < hi)) (decide (15 < lo)) (overflowAdd a b r) r⟩

/-- `VSub8(SW, a, b, bl, bh)` (R195): two 4-bit lanes, the low lane's borrow in `A`, the high lane's in `C`. -/
def vsub8 (bl bh : Bool) (sw a b : Byte) : UnitOut :=
  let r := lanes (highLane a + 32 - highLane b - bh.toNat) (lowLane a + 32 - lowLane b - bl.toNat)
  ⟨r, flagsOf sw (decide (highLane a < highLane b + bh.toNat)) (decide (lowLane a < lowLane b + bl.toNat)) (overflowSub a b r) r⟩

/-- `Inc8(SW, a)` (R196); no instruction reaches it. -/
def inc8 (sw a : Byte) : UnitOut :=
  let r := a + 1
  ⟨r, flagsOf sw (swC sw) (lowLane a == 15) (a == 0x7F) r⟩

/-- `Dec8(SW, a)` (R196); no instruction reaches it. -/
def dec8 (sw a : Byte) : UnitOut :=
  let r := a - 1
  ⟨r, flagsOf sw (swC sw) (lowLane a == 0) (a == 0x80) r⟩

/-- `Bool(SW, r)` (R197), which is also the flag shape of the math unit (R250): `C`, `A`, `V` cleared. -/
def plainOut (sw r : Byte) : UnitOut := ⟨r, flagsOf sw false false false r⟩

/-- The shape of a shift (R230, R231): an amount of 0 changes no flag; else `C` is the carry out and `A`, `V` are cleared. -/
def shiftOut (sw a : Byte) (n : Nat) (r : Byte) (c : Bool) : UnitOut :=
  if n = 0 then ⟨a, sw⟩ else ⟨r, flagsOf sw c false false r⟩

/-- `Lsl(SW, a, n)` (R232). -/
def lsl8 (sw a : Byte) (n : Nat) : UnitOut :=
  shiftOut sw a n (BitVec.ofNat 8 (a.toNat * 2 ^ n)) (a.getLsbD (8 - n))

/-- `Lsr(SW, a, n)` (R233). -/
def lsr8 (sw a : Byte) (n : Nat) : UnitOut :=
  shiftOut sw a n (BitVec.ofNat 8 (a.toNat / 2 ^ n)) (a.getLsbD (n - 1))

/-- The 9-bit rotate left by `n` of the carry above the byte (R234). -/
def rotate9 (c : Bool) (a : Byte) (n : Nat) : BitVec 9 :=
  let t := c.toNat * 256 + a.toNat
  BitVec.ofNat 9 (t * 2 ^ n % 512 ||| t / 2 ^ (9 - n))

/-- `Rol(SW, a, n)` (R234): rotate left through carry. -/
def rol8 (sw a : Byte) (n : Nat) : UnitOut :=
  let t := rotate9 (swC sw) a n
  shiftOut sw a n (t.setWidth 8) (t.getLsbD 8)

/-- `Asr(SW, a, n)` (R235): floor of the signed value by `2 ^ n`. -/
def asr8 (sw a : Byte) (n : Nat) : UnitOut :=
  shiftOut sw a n (BitVec.ofInt 8 (a.toInt / 2 ^ n)) (a.getLsbD (n - 1))

/-- `MulLo` (R250). -/
def mulLo (a b : Byte) : Byte := BitVec.ofNat 8 (a.toNat * b.toNat)

/-- `MulHi` (R250). -/
def mulHi (a b : Byte) : Byte := BitVec.ofNat 8 (a.toNat * b.toNat / 256)

/-- `Div`, for `b ≠ 0` (R250). -/
def divByte (a b : Byte) : Byte := BitVec.ofNat 8 (a.toNat / b.toNat)

/-- `Mod`, for `b ≠ 0` (R250). -/
def modByte (a b : Byte) : Byte := BitVec.ofNat 8 (a.toNat - b.toNat * (a.toNat / b.toNat))

/-- `Isqrt(a)` (R256): the largest `r` with `r * r ≤ a`. -/
def isqrt (a : Byte) : Byte :=
  BitVec.ofNat 8 (((List.range 16).filter fun r => decide (r * r ≤ a.toNat)).getLastD 0)

/-- `Clz(a)` (R257): the number of 0 bits above the highest 1 bit; 8 for 0. -/
def clz8 (a : Byte) : Byte :=
  BitVec.ofNat 8 ((List.range 8).takeWhile fun i => !a.getLsbD (7 - i)).length

/-- `Ctz(a)` (R258): the number of 0 bits below the lowest 1 bit; 8 for 0. -/
def ctz8 (a : Byte) : Byte :=
  BitVec.ofNat 8 ((List.range 8).takeWhile fun i => !a.getLsbD i).length

/-- `Popc(a)` (R259). -/
def popc8 (a : Byte) : Byte := BitVec.ofNat 8 (popCount a)

/-- The status word after a division by zero: `E` set, `r3` kept, the six flags the drawn ones (R251). -/
def div0Sw (sw : Byte) (d : BitVec 6) : Byte :=
  packSw (d.getLsbD 0) true (d.getLsbD 1) (swR3 sw) (d.getLsbD 2) (d.getLsbD 3) (d.getLsbD 4) (d.getLsbD 5)

/-- `COND_TABLE` (R121): table 0 or table 1, by code, tested on the status word. -/
def condTable (alt : Bool) (c : BitVec 3) (sw : Byte) : Bool :=
  match alt, c.toNat with
  | false, 0 => true
  | false, 1 => swZ sw
  | false, 2 => !swZ sw
  | false, 3 => swC sw
  | false, 4 => !swC sw
  | false, 5 => swS sw
  | false, 6 => !swS sw
  | false, _ => swV sw
  | true, 0 => swE sw
  | true, 1 => !swE sw
  | true, 2 => swP sw
  | true, 3 => !swP sw
  | true, 4 => swA sw
  | true, 5 => !swA sw
  | true, 6 => swS sw != swV sw
  | true, _ => swS sw == swV sw

end Sys2Proof.Machine
end

