-- ==== Sys2Proof/Machine/Operands.lean ====
section
/-! DEFINITION. Register operands (spec/10_state.md R11 to R15): the reading that clears register 0, the two ways of writing, and
the address operands of JMP, CAL, BRC (spec/41_control.md R122), MLD, MST (spec/43_stack_memory.md R163) and the hardware stack
(R150). -/

namespace Sys2Proof.Machine

/-- A value read and the state after the read (a read can change the state). -/
structure Fetched where
  val : Byte
  st  : State

/-- The register numbered `i`. -/
def Regs.get (r : Regs) (i : RegIx) : Byte :=
  match i.toNat with
  | 0 => r.r0
  | 1 => r.r1
  | 2 => r.r2
  | 3 => r.r3
  | 4 => r.r4
  | 5 => r.r5
  | 6 => r.r6
  | _ => r.r7

/-- The registers with `v` in the one numbered `i`. -/
def Regs.set (r : Regs) (i : RegIx) (v : Byte) : Regs :=
  match i.toNat with
  | 0 => { r with r0 := v }
  | 1 => { r with r1 := v }
  | 2 => { r with r2 := v }
  | 3 => { r with r3 := v }
  | 4 => { r with r4 := v }
  | 5 => { r with r5 := v }
  | 6 => { r with r6 := v }
  | _ => { r with r7 := v }

/-- The raw content `R[i]`, with no side effect (spec/00_scope.md R8). -/
def State.reg (s : State) (i : RegIx) : Byte := s.regs.get i

/-- The operand read `x[i]`: the value `R[i]` held, after which `R[0]` is 0 if it is the one read (R12). -/
def State.readReg (s : State) (i : RegIx) : Fetched :=
  ⟨s.reg i, if i = 0 then { s with regs := s.regs.set 0 0 } else s⟩

/-- The normal write `x[i] <- v`: dropped for register 0 (R13). -/
def State.writeReg (s : State) (i : RegIx) (v : Byte) : State :=
  if i = 0 then s else { s with regs := s.regs.set i v }

/-- The direct write `xd[i] <- v`, to every register (R14); it is also the raw clear of MOV.0 (spec/44_move_imm.md R171). -/
def State.writeDirect (s : State) (i : RegIx) (v : Byte) : State :=
  { s with regs := s.regs.set i v }

/-- `CW.K`, kernel mode (R19). -/
def State.kernel (s : State) : Bool := s.cw.getLsbD 0

/-- `CW.J`, page-jump addressing (R19). -/
def State.pageJump (s : State) : Bool := s.cw.getLsbD 1

/-- `CW.T`, the alternate condition table (R19). -/
def State.altTable (s : State) : Bool := s.cw.getLsbD 2

/-- `CW.I`, interrupt-enable (R19). -/
def State.irqEnable (s : State) : Bool := s.cw.getLsbD 7

/-- `Target11(a)`, the target of JMP and CAL (spec/41_control.md R122). -/
def State.target11 (s : State) (a : BitVec 11) : Word :=
  if s.pageJump then BitVec.ofNat 16 (a.toNat * 64) else a.setWidth 16

/-- The instruction page of a word address: bits 15:6. -/
def instrPage (a : Word) : BitVec 10 := a.extractLsb' 6 10

/-- The branch offset of a word address: bits 5:0 (R23). -/
def branchOffset (a : Word) : BitVec 6 := a.extractLsb' 0 6

/-- `TargetBr(o)`, the target of BRC (R122): inside the page `pc` is in, or the first word of page `o`. -/
def State.targetBr (s : State) (o : BitVec 6) : Word :=
  if s.pageJump then BitVec.ofNat 16 (o.toNat * 64) else instrPage s.pc ++ o

/-- The offset MLD and MST address in the resident page: `(AP + off6) mod 256` (spec/43_stack_memory.md R163). -/
def State.bankOffset (s : State) (o : BitVec 6) : Byte := s.ap + o.setWidth 8

/-- `SA(s)`, the pool address of stack slot `s` (R150). -/
def slotAddr (slot : Nat) : Word := BitVec.ofNat 16 (65535 - slot)

/-- The slot a push with frame offset `f` addresses, if there is one (R151). -/
def State.pushSlot (s : State) (f : BitVec 3) : Option Nat :=
  if s.vsp + f.toNat ≤ 65535 then some (s.vsp + f.toNat) else none

/-- The slot a pop, peek or poke with frame offset `f` addresses, if there is one (R151). -/
def State.popSlot (s : State) (f : BitVec 3) : Option Nat :=
  if 1 + f.toNat ≤ s.vsp then some (s.vsp - 1 - f.toNat) else none

end Sys2Proof.Machine
end

