-- ==== Sys2Proof/Machine/Params.lean ====
section
/-! DEFINITION. The parameters for which the spec has a default (spec/00_scope.md R6), each at that default (assumption log 1). The
opcode map `OPMAP` is `opmap` in `Decode.lean`, the condition tables `COND_TABLE` are `condTable` in `Machine/Flags.lean`; the depth
of the interrupt stacks is unbounded (`IRQ_STACK_DEPTH`), so it has no name here. -/

namespace Sys2Proof.Machine

/-- `NVEC`, the number of entries of the vector table (spec/60_exceptions.md R272, decision D18): 16. -/
def nvec : Nat := 16

/-- `IE_GATES_DISPATCH` (R277, decision D20): `CW.I = 1` is required for an interrupt to be dispatched. -/
def ieGatesDispatch : Bool := true

/-- `IRQ_ADMIT(mask, priority, vector)` (R275, decision D19): every request is admitted. -/
def irqAdmit (_mask _priority _vector : Byte) : Bool := true

end Sys2Proof.Machine
end

