-- ==== Sys2Proof/Machine/Ops.lean ====
section
/-! DEFINITION. The named operations over the machine's state: the error flag and the privilege check, the bank window, the
hardware stack, the call stack, the ports, the internal registers, the interrupt controller (its two input interfaces, the check
and the entry, which is the one way this machine takes an exception), run control, what the environment delivers, and the fetch.
The return from an interrupt is the call-stack pop (spec/60_exceptions.md R279). -/

namespace Sys2Proof.Machine

/-! ## Failures and privilege (spec/60_exceptions.md R270, R281, R284) -/

/-- `seterr`: `SW.E <- 1` and nothing else (R270). -/
def State.seterr (s : State) : State := { s with sw := setErr s.sw }

/-- `privileged { body }`: the body in kernel mode, else `seterr`; tested before anything else (R281). -/
def State.privileged (s : State) (body : State → State) : State :=
  if s.kernel then body s else s.seterr

/-- `raise DomainFault`: `RUN <- FAULTED` (R284). Assumption log 6. -/
def State.raiseDomainFault (s : State) : State := { s with run := .faulted }

/-! ## The bank window (spec/20_memory.md R41 to R47) -/

/-- The data page of a pool address: bits 15:8 (R41). -/
def dataPage (a : Word) : Byte := a.extractLsb' 8 8

/-- The offset of a pool address in its page: bits 7:0 (R41). -/
def pageOffset (a : Word) : Byte := a.extractLsb' 0 8

/-- The pool with the resident page written back to it (R44). -/
def State.writeBack (s : State) : List Host.Cell :=
  Memory.splice s.pool (256 * s.page.toNat) 256 s.bank

/-- `SetPage(p)` (R44): nothing if page `p` is resident; else write back if dirty, load page `p`, clear `DIRTY`. -/
def State.setPage (s : State) (p : Byte) : State :=
  if p = s.page then s
  else
    let pool := if s.dirty then s.writeBack else s.pool
    { s with pool := pool, bank := Memory.window pool (256 * p.toNat) 256, page := p, dirty := false }

/-- `BankRead(o)` (R43). -/
def State.bankRead (s : State) (o : Byte) : Byte := Memory.read s.bank o.toNat

/-- `BankWrite(o, v)` (R43): the byte goes to the bank and `DIRTY` is set. -/
def State.bankWrite (s : State) (o v : Byte) : State :=
  { s with bank := Memory.write s.bank o.toNat v, dirty := true }

/-- The architectural content of a data address (R45 c): the bank's byte if its page is resident, else the pool's. -/
def State.mem (s : State) (a : Word) : Byte :=
  if dataPage a = s.page then s.bankRead (pageOffset a) else Memory.read s.pool a.toNat

/-- `MemRead(a, 1)` (R46): the page of `a` becomes resident. -/
def State.memRead (s : State) (a : Word) : Fetched :=
  let s' := s.setPage (dataPage a)
  ⟨s'.bankRead (pageOffset a), s'⟩

/-- `MemWrite(a, 1, v)` (R47). -/
def State.memWrite (s : State) (a : Word) (v : Byte) : State :=
  (s.setPage (dataPage a)).bankWrite (pageOffset a) v

/-! ## The hardware stack (spec/43_stack_memory.md R150, R151) -/

/-- The three pushing modes: write `v` at slot `VSP + f` and count it; `seterr` if there is no such slot. -/
def State.push (s : State) (f : BitVec 3) (v : Byte) : State :=
  match s.pushSlot f with
  | none => s.seterr
  | some slot =>
    let s' := s.memWrite (slotAddr slot) v
    { s' with vsp := s'.vsp + 1 }

/-- Overwrite the byte `f` below the top (poke); `seterr` if there is none. -/
def State.poke (s : State) (f : BitVec 3) (v : Byte) : State :=
  match s.popSlot f with
  | none => s.seterr
  | some slot => s.memWrite (slotAddr slot) v

/-- Read the byte `f` below the top and hand it to `use`; `seterr` if there is none. `drop` is how many bytes leave the stack. -/
def State.popWith (s : State) (f : BitVec 3) (drop : Nat) (use : Byte → State → State) : State :=
  match s.popSlot f with
  | none => s.seterr
  | some slot =>
    let r := s.memRead (slotAddr slot)
    use r.val { r.st with vsp := r.st.vsp - drop }

/-! ## The call stack (spec/10_state.md R25 to R28) -/

/-- `CSPush(v)` (R26): wraps silently. -/
def State.csPush (s : State) (v : Word) : State :=
  { s with cs := s.cs.write s.csp.toNat v, csp := s.csp + 1 }

/-- The entry `CSPop()` returns: the one below the pointer (R27). -/
def State.csTop (s : State) : Word := s.cs.read (s.csp - 1).toNat

/-- The state after `CSPop()`: the pointer moves, the entry keeps its value, no flag (R27). -/
def State.csPop (s : State) : State := { s with csp := s.csp - 1 }

/-- `CSDrain()` (R28): every entry 0 and the pointer 0; the value it returns is the old `CS[0]`. -/
def State.csDrain (s : State) : State := { s with cs := [], csp := 0 }

/-! ## The ports (spec/20_memory.md R58 to R62) -/

/-- Whether a device occupies a port. -/
def Binding.holds (b : Binding) (p : Byte) : Bool := decide (b.base ≤ p.toNat) && decide (p.toNat < b.base + b.size)

/-- `Dev(p)`: the device bound to a port, if any (R58). -/
def State.deviceAt (s : State) (p : Byte) : Option Binding := s.devices.find? fun b => b.holds p

/-- The offset of a port in the range of the device bound to it (R58). -/
def Binding.offset (b : Binding) (p : Byte) : Nat := p.toNat - b.base

/-- The input latches after the read handler of the device bound to port `p` has replied (R60; assumption log 3). -/
def State.replied (s : State) (b : Binding) (p : Byte) : List Host.Cell :=
  match Config.deviceReply s.draws s.deviceCalls b.device (b.offset p) with
  | none => s.inLatch
  | some v => Memory.write s.inLatch p.toNat v

/-- `d.read(o)`: the read handler of a bound device runs and may write the input latch (R60). -/
def State.deviceRead (s : State) (b : Binding) (p : Byte) : State :=
  { s with inLatch := s.replied b p, deviceCalls := .read b.device (b.offset p) :: s.deviceCalls, draws := s.draws + 1 }

/-- `PortRead(p)` (R60): the input latch after the device's read handler, or the output latch of an unbound port. -/
def State.portRead (s : State) (p : Byte) : Fetched :=
  match s.deviceAt p with
  | some b =>
    let s' := s.deviceRead b p
    ⟨Memory.read s'.inLatch p.toNat, s'⟩
  | none => ⟨Memory.read s.outLatch p.toNat, s⟩

/-- The devices' calls after `d.write(o, v)`, the call of the write handler of the device bound to port `p`, if there is one (R61;
assumption log 3). -/
def State.deviceWrite (s : State) (p v : Byte) : List DeviceCall :=
  match s.deviceAt p with
  | some b => .write b.device (b.offset p) v :: s.deviceCalls
  | none => s.deviceCalls

/-- `PortWrite(p, v)` (R61): the output latch, then the write handler of a bound device; what the device then does comes back in its
replies (R60) and its events (R62). -/
def State.portWrite (s : State) (p v : Byte) : State :=
  { s with outLatch := Memory.write s.outLatch p.toNat v, deviceCalls := s.deviceWrite p v }

/-! ## The internal registers (spec/42_port_internal.md R142, R143) -/

/-- `Int(k)`, the internal register of index `k` (R142). -/
def State.internal (s : State) (k : BitVec 3) : Byte :=
  match k.toNat with
  | 0 => s.ap
  | 1 => s.csp.setWidth 8
  | 2 => s.sw
  | 3 => s.cw
  | 4 => s.loopPtr
  | 5 => (branchOffset s.pc).setWidth 8
  | 6 => s.pc.extractLsb' 0 8
  | _ => s.pc.extractLsb' 8 8

/-- Whether a store to internal register `k` is kernel-gated (R143). -/
def internalGated (k : BitVec 3) : Bool :=
  match k.toNat with
  | 0 => false
  | 1 => false
  | 2 => true
  | 3 => true
  | 4 => false
  | 5 => true
  | 6 => true
  | _ => true

/-- The store of `v` to internal register `k` (R143). -/
def State.setInternal (s : State) (k : BitVec 3) (v : Byte) : State :=
  match k.toNat with
  | 0 => { s with ap := v }
  | 1 => { s with csp := v.setWidth 6 }
  | 2 => { s with sw := v }
  | 3 => { s with cw := v }
  | 4 => { s with loopPtr := v }
  | 5 => { s with pc := instrPage s.pc ++ (v.setWidth 6 : BitVec 6) }
  | 6 => { s with pc := s.pc.extractLsb' 8 8 ++ v }
  | _ => { s with pc := v ++ s.pc.extractLsb' 0 8 }

/-! ## The interrupt controller (spec/60_exceptions.md R272 to R279) -/

/-- The index of a vector in the table: reduced mod `NVEC` (R272). -/
def vectorIndex (v : Byte) : Nat := v.toNat % nvec

/-- The write of one vector-table entry (spec/40_system.md R108). -/
def State.setVector (s : State) (v target : Byte) : State :=
  { s with vt := Memory.write s.vt (vectorIndex v) target }

/-- The handler address of a vector: `zext_16(VT[v mod NVEC])`, never scaled (R278). -/
def State.handler (s : State) (v : Byte) : Word := (Memory.read s.vt (vectorIndex v)).setWidth 16

/-- `IrqRequest(priority, vector)` (R274). -/
def State.irqRequest (s : State) (q : Irq) : State :=
  if irqAdmit s.mask q.priority q.vector then { s with pend := q :: s.pend } else s

/-- `ActivePop()` (R279). -/
def State.activePop (s : State) : State := { s with act := s.act.tail }

/-- A request may be served: nothing is active, or its priority strictly exceeds the top active one's (R277). -/
def State.outranksActive (s : State) (q : Irq) : Bool :=
  match s.act with
  | [] => true
  | top :: _ => decide (top.priority.toNat < q.priority.toNat)

/-- Whether `CW` lets the check dispatch (R277). -/
def State.irqGate (s : State) : Bool := s.irqEnable || !ieGatesDispatch

/-- The entry into the handler of the request `q`, with `rest` still pending (R278): the return address goes on the call stack, the
pc to the vector's address, the request on the active stack; nothing else is saved or changed. -/
def State.enterInterrupt (s : State) (q : Irq) (rest : List Irq) : State :=
  { s.csPush s.pc with pend := rest, act := q :: s.act, pc := s.handler q.vector }

/-- The check at the start of a tick (R277): only the top of each stack is compared. -/
def State.checkInterrupt (s : State) : State :=
  match s.pend with
  | [] => s
  | q :: rest => if s.irqGate && s.outranksActive q then s.enterInterrupt q rest else s

/-! ## Run control and the environment (spec/70_reset_and_hazards.md R303, R304) -/

/-- The host starts or resumes: PAUSED to RUNNING (R304). -/
def State.hostStart (s : State) : State := if s.run = .paused then { s with run := .running } else s

/-- The host pauses: RUNNING to PAUSED (R304). -/
def State.hostPause (s : State) : State := if s.run = .running then { s with run := .paused } else s

/-- The host stops: to STOPPED; FAULTED is left only by reset (R304; assumption log 13). -/
def State.hostStop (s : State) : State := if s.run = .faulted then s else { s with run := .stopped }

/-- A device's port-write notification: the input latch (spec/20_memory.md R62). -/
def State.portNotify (s : State) (p v : Byte) : State := { s with inLatch := Memory.write s.inLatch p.toNat v }

/-- One event of the environment. -/
def State.deliver (s : State) (e : EnvEvent) : State :=
  match e with
  | .irqRequest q => s.irqRequest q
  | .activePop => s.activePop
  | .portNotify p v => s.portNotify p v
  | .start => s.hostStart
  | .pause => s.hostPause
  | .stop => s.hostStop

/-- What the environment delivers before this tick, in its order (assumption log 5). -/
def State.takeInputs (s : State) : State :=
  match s.inputs with
  | [] => s
  | batch :: rest => batch.foldl State.deliver { s with inputs := rest }

/-! ## Fetch (spec/20_memory.md R52 to R55) -/

/-- The instruction cache holding the page of `a`: reloaded on a miss (R54). -/
def State.loadInstrPage (s : State) (a : Word) : State :=
  if instrPage a = s.ipage then s
  else { s with icache := s.ipool.window (64 * (instrPage a).toNat) 64, ipage := instrPage a }

/-- The word the cache holds for `a` (R54). -/
def State.cachedWord (s : State) (a : Word) : Word := s.icache.read (branchOffset a).toNat

/-- The `pc` moved past the fetched word; it wraps (spec/10_state.md R21, R22). -/
def State.advance (s : State) : State := { s with pc := s.pc + 1 }

/-- The state in which the tick executes: interrupt check, fetch of the page, `pc` increment done (R303). -/
def State.readyToExecute (s : State) : State := ((s.checkInterrupt).loadInstrPage (s.checkInterrupt).pc).advance

/-- `IFetch` of the tick: the word at the `pc` the interrupt check leaves (R54, R303). -/
def State.fetchedWord (s : State) : Word :=
  ((s.checkInterrupt).loadInstrPage (s.checkInterrupt).pc).cachedWord (s.checkInterrupt).pc

end Sys2Proof.Machine
end

