-- ==== Sys2Proof/Machine/Alu.lean ====
section
/-! DEFINITION. ADD, SUB, their variants and the boolean operations (spec/45_alu.md R199 to R217). -/

namespace Sys2Proof.Machine

/-- The three-register form (R199): `y` is read, then `z`; the result goes to `x` by a normal write, the flags to `SW`. -/
def State.aluOp (s : State) (x y z : RegIx) (unit : Byte → Byte → Byte → UnitOut) : State :=
  let a := s.readReg y
  let b := a.st.readReg z
  let u := unit s.sw a.val b.val
  ({ b.st with sw := u.sw }).writeReg x u.r

/-- ADD (R200). -/
def execAdd (x y z : RegIx) (s : State) : Result := .next (s.aluOp x y z fun sw a b => add8 false sw a b)

/-- ADC (R201). -/
def execAdc (x y z : RegIx) (s : State) : Result := .next (s.aluOp x y z fun sw a b => add8 (swC sw) sw a b)

/-- VAD (R202). -/
def execVad (x y z : RegIx) (s : State) : Result := .next (s.aluOp x y z fun sw a b => vadd8 false false sw a b)

/-- VAC (R203). -/
def execVac (x y z : RegIx) (s : State) : Result := .next (s.aluOp x y z fun sw a b => vadd8 (swA sw) (swC sw) sw a b)

/-- SUB: first source minus second (R204, R208). -/
def execSub (x y z : RegIx) (s : State) : Result := .next (s.aluOp x y z fun sw a b => sub8 false sw a b)

/-- SBB (R205). -/
def execSbb (x y z : RegIx) (s : State) : Result := .next (s.aluOp x y z fun sw a b => sub8 (swC sw) sw a b)

/-- VSB (R206). -/
def execVsb (x y z : RegIx) (s : State) : Result := .next (s.aluOp x y z fun sw a b => vsub8 false false sw a b)

/-- VSC (R207). -/
def execVsc (x y z : RegIx) (s : State) : Result := .next (s.aluOp x y z fun sw a b => vsub8 (swA sw) (swC sw) sw a b)

/-- OR (R210). -/
def execOr (x y z : RegIx) (s : State) : Result := .next (s.aluOp x y z fun sw a b => plainOut sw (a ||| b))

/-- AND (R211). -/
def execAnd (x y z : RegIx) (s : State) : Result := .next (s.aluOp x y z fun sw a b => plainOut sw (a &&& b))

/-- XOR (R212). -/
def execXor (x y z : RegIx) (s : State) : Result := .next (s.aluOp x y z fun sw a b => plainOut sw (a ^^^ b))

/-- IMP: the first source is the antecedent (R213). -/
def execImp (x y z : RegIx) (s : State) : Result := .next (s.aluOp x y z fun sw a b => plainOut sw (~~~a ||| b))

/-- NOR (R214). -/
def execNor (x y z : RegIx) (s : State) : Result := .next (s.aluOp x y z fun sw a b => plainOut sw (~~~(a ||| b)))

/-- NAND (R215). -/
def execNand (x y z : RegIx) (s : State) : Result := .next (s.aluOp x y z fun sw a b => plainOut sw (~~~(a &&& b)))

/-- XNOR (R216). -/
def execXnor (x y z : RegIx) (s : State) : Result := .next (s.aluOp x y z fun sw a b => plainOut sw (~~~(a ^^^ b)))

/-- NIMP, the negation of IMP (R217). -/
def execNimp (x y z : RegIx) (s : State) : Result := .next (s.aluOp x y z fun sw a b => plainOut sw (a &&& ~~~b))

end Sys2Proof.Machine
end

