-- ==== Sys2Proof/Machine/Control.lean ====
section
/-! DEFINITION. LDC, JMP, BRC, CAL and RET (spec/41_control.md R120 to R128). -/

namespace Sys2Proof.Machine

/-- `Cond(c)` (R120). -/
def State.cond (s : State) (c : BitVec 3) : Bool := condTable s.altTable c s.sw

/-- LDC, conditional immediate load: a direct write if the condition holds (R123). -/
def execLdc (x : RegIx) (c : BitVec 3) (v : BitVec 5) (s : State) : Result :=
  .next (if s.cond c then s.writeDirect x (v.setWidth 8) else s)

/-- JMP, absolute jump (R124). -/
def execJmp (a : BitVec 11) (s : State) : Result := .next { s with pc := s.target11 a }

/-- BRC, conditional branch (R125). -/
def execBrc (c : BitVec 3) (o : BitVec 6) (s : State) : Result :=
  .next (if s.cond c then { s with pc := s.targetBr o } else s)

/-- CAL, call: the `pc` pushed is the incremented one (R126). -/
def execCal (a : BitVec 11) (s : State) : Result := .next { s.csPush s.pc with pc := s.target11 a }

/-- RET subtype 0, single-frame return; also the return from an interrupt (R127; spec/60_exceptions.md R279). -/
def execRet0 (s : State) : Result := .next { s.csPop with pc := s.csTop }

/-- RET subtype 1, unwind to the oldest frame (R128). -/
def execRet1 (s : State) : Result := .next { s.csDrain with pc := s.cs.read 0 }

end Sys2Proof.Machine
end

