-- ==== Sys2Proof/Machine/MoveImm.lean ====
section
/-! DEFINITION. LDI, MOV and the immediate ALU operations (spec/44_move_imm.md R170 to R180). -/

namespace Sys2Proof.Machine

/-- LDI, immediate load, a direct write (R170). -/
def execLdi (x : RegIx) (v : Byte) (s : State) : Result := .next (s.writeDirect x v)

/-- MOV subtype 0, move and zero: the raw clear of the source is done last (R171). -/
def execMov0 (x y : RegIx) (s : State) : Result :=
  let r := s.readReg y
  .next ((r.st.writeReg x r.val).writeDirect y 0)

/-- MOV subtype 1, copy (R172). -/
def execMov1 (x y : RegIx) (s : State) : Result :=
  let r := s.readReg y
  .next (r.st.writeReg x r.val)

/-- MOV subtype 2, reserved no-op: no register is read (R173). -/
def execMov2 (_x _y : RegIx) (s : State) : Result := .next s

/-- MOV subtype 3, reserved no-op: no register is read (R173). -/
def execMov3 (_x _y : RegIx) (s : State) : Result := .next s

/-- The common form of ADI, ANI, ORI, XRI: the register is the first operand and the destination (R174). -/
def State.immOp (s : State) (x : RegIx) (unit : Byte → Byte → UnitOut) : State :=
  let r := s.readReg x
  let u := unit s.sw r.val
  ({ r.st with sw := u.sw }).writeReg x u.r

/-- The common form of CPI, TSI: the result is dropped, the flags stay (R174, R179, R180). -/
def State.immTest (s : State) (x : RegIx) (unit : Byte → Byte → UnitOut) : State :=
  let r := s.readReg x
  { r.st with sw := (unit s.sw r.val).sw }

/-- ADI (R175). -/
def execAdi (x : RegIx) (v : Byte) (s : State) : Result := .next (s.immOp x fun sw a => add8 false sw a v)

/-- ANI (R176). -/
def execAni (x : RegIx) (v : Byte) (s : State) : Result := .next (s.immOp x fun sw a => plainOut sw (a &&& v))

/-- ORI (R177). -/
def execOri (x : RegIx) (v : Byte) (s : State) : Result := .next (s.immOp x fun sw a => plainOut sw (a ||| v))

/-- XRI (R178). -/
def execXri (x : RegIx) (v : Byte) (s : State) : Result := .next (s.immOp x fun sw a => plainOut sw (a ^^^ v))

/-- CPI, compare-discard (R179). -/
def execCpi (x : RegIx) (v : Byte) (s : State) : Result := .next (s.immTest x fun sw a => sub8 false sw a v)

/-- TSI, test-discard (R180). -/
def execTsi (x : RegIx) (v : Byte) (s : State) : Result := .next (s.immTest x fun sw a => plainOut sw (a &&& v))

end Sys2Proof.Machine
end

