-- ==== Sys2Proof/Machine/PortInternal.lean ====
section
/-! DEFINITION. INP, OUT, LDS and STS (spec/42_port_internal.md R140 to R143). -/

namespace Sys2Proof.Machine

/-- INP, port input: the device's handler runs even if the value is dropped (R140). -/
def execInp (x : RegIx) (p : Byte) (s : State) : Result :=
  let r := s.portRead p
  .next (r.st.writeReg x r.val)

/-- OUT, port output (R141). -/
def execOut (x : RegIx) (p : Byte) (s : State) : Result :=
  let r := s.readReg x
  .next (r.st.portWrite p r.val)

/-- LDS, internal register load (R142). -/
def execLds (x : RegIx) (k : BitVec 3) (s : State) : Result := .next (s.writeReg x (s.internal k))

/-- The store of STS once it is allowed: the source register is read now, then the target written (R143). -/
def State.storeInternal (s : State) (x : RegIx) (k : BitVec 3) : State :=
  let r := s.readReg x
  r.st.setInternal k r.val

/-- STS, internal register store: five of the eight targets are kernel-gated (R143). -/
def execSts (x : RegIx) (k : BitVec 3) (s : State) : Result :=
  .next (if internalGated k then s.privileged (fun s => s.storeInternal x k) else s.storeInternal x k)

end Sys2Proof.Machine
end

