-- ==== Sys2Proof/Machine/ShiftMath.lean ====
section
/-! DEFINITION. Shifts, multiply and divide, square root and bit counting (spec/46_shift_math.md R230 to R263). -/

namespace Sys2Proof.Machine

/-- The register-amount form (R244, R245): `y` is read, then `z`; an amount above 7 raises DomainFault, the reads not undone. -/
def State.shiftByReg (s : State) (x y z : RegIx) (unit : Byte → Byte → Nat → UnitOut) : State :=
  let a := s.readReg y
  let n := a.st.readReg z
  if 7 < n.val.toNat then n.st.raiseDomainFault
  else
    let u := unit s.sw a.val n.val.toNat
    ({ n.st with sw := u.sw }).writeReg x u.r

/-- The form with one source register: immediate shifts (R245), multiply and divide (R246), bit counting (R247). -/
def State.unaryOp (s : State) (x y : RegIx) (unit : Byte → Byte → UnitOut) : State :=
  let a := s.readReg y
  let u := unit s.sw a.val
  ({ a.st with sw := u.sw }).writeReg x u.r

/-- Division or modulo by zero (R251): `E` is set, the destination gets the drawn byte, the six flags are the drawn ones. -/
def State.divByZero (s : State) (x y : RegIx) : State :=
  let a := s.readReg y
  ({ a.st with sw := div0Sw s.sw (Config.div0Flags s.draws), draws := s.draws + 1 }).writeReg x (Config.div0Result s.draws)

/-- LSL (R236). -/
def execLsl (x y z : RegIx) (s : State) : Result := .next (s.shiftByReg x y z lsl8)

/-- LSR (R237). -/
def execLsr (x y z : RegIx) (s : State) : Result := .next (s.shiftByReg x y z lsr8)

/-- ROL (R238). -/
def execRol (x y z : RegIx) (s : State) : Result := .next (s.shiftByReg x y z rol8)

/-- ASR (R239). -/
def execAsr (x y z : RegIx) (s : State) : Result := .next (s.shiftByReg x y z asr8)

/-- LSLI (R240). -/
def execLsli (x y : RegIx) (n : BitVec 3) (s : State) : Result := .next (s.unaryOp x y fun sw a => lsl8 sw a n.toNat)

/-- LSRI (R241). -/
def execLsri (x y : RegIx) (n : BitVec 3) (s : State) : Result := .next (s.unaryOp x y fun sw a => lsr8 sw a n.toNat)

/-- ROLI (R242). -/
def execRoli (x y : RegIx) (n : BitVec 3) (s : State) : Result := .next (s.unaryOp x y fun sw a => rol8 sw a n.toNat)

/-- ASRI (R243). -/
def execAsri (x y : RegIx) (n : BitVec 3) (s : State) : Result := .next (s.unaryOp x y fun sw a => asr8 sw a n.toNat)

/-- MULI, low-byte product (R252). -/
def execMuli (x y : RegIx) (n : BitVec 3) (s : State) : Result :=
  .next (s.unaryOp x y fun sw a => plainOut sw (mulLo a (n.setWidth 8)))

/-- MUHI, high-byte product (R253). -/
def execMuhi (x y : RegIx) (n : BitVec 3) (s : State) : Result :=
  .next (s.unaryOp x y fun sw a => plainOut sw (mulHi a (n.setWidth 8)))

/-- DIVI (R254). -/
def execDivi (x y : RegIx) (n : BitVec 3) (s : State) : Result :=
  .next (if n = 0 then s.divByZero x y else s.unaryOp x y fun sw a => plainOut sw (divByte a (n.setWidth 8)))

/-- MODI (R255). -/
def execModi (x y : RegIx) (n : BitVec 3) (s : State) : Result :=
  .next (if n = 0 then s.divByZero x y else s.unaryOp x y fun sw a => plainOut sw (modByte a (n.setWidth 8)))

/-- SQRT (R260). -/
def execSqrt (x y : RegIx) (s : State) : Result := .next (s.unaryOp x y fun sw a => plainOut sw (isqrt a))

/-- CLZ (R261). -/
def execClz (x y : RegIx) (s : State) : Result := .next (s.unaryOp x y fun sw a => plainOut sw (clz8 a))

/-- CTZ (R262). -/
def execCtz (x y : RegIx) (s : State) : Result := .next (s.unaryOp x y fun sw a => plainOut sw (ctz8 a))

/-- POPC (R263). -/
def execPopc (x y : RegIx) (s : State) : Result := .next (s.unaryOp x y fun sw a => plainOut sw (popc8 a))

end Sys2Proof.Machine
end

