-- ==== Sys2Proof/Machine/StackMemory.lean ====
section
/-! DEFINITION. POP, PSH, MLD and MST (spec/43_stack_memory.md R150 to R164). -/

namespace Sys2Proof.Machine

/-- POP mode 0, destructive pop to register (R152). -/
def execPop0 (x : RegIx) (f : BitVec 3) (s : State) : Result :=
  .next (s.popWith f 1 fun v s => s.writeReg x v)

/-- POP mode 1, non-destructive peek to register (R153). -/
def execPop1 (x : RegIx) (f : BitVec 3) (s : State) : Result :=
  .next (s.popWith f 0 fun v s => s.writeReg x v)

/-- POP mode 2, pop into status word, not gated (R154). -/
def execPop2 (_x : RegIx) (f : BitVec 3) (s : State) : Result :=
  .next (s.popWith f 1 fun v s => { s with sw := v })

/-- POP mode 3, pop and discard; the slot's page becomes resident (R155). -/
def execPop3 (_x : RegIx) (f : BitVec 3) (s : State) : Result :=
  .next (s.popWith f 1 fun _ s => s)

/-- PSH mode 0, push from register, which is read before the bounds check (R151, R157). -/
def execPsh0 (x : RegIx) (f : BitVec 3) (s : State) : Result :=
  let r := s.readReg x
  .next (r.st.push f r.val)

/-- PSH mode 1, non-destructive poke (R158). -/
def execPsh1 (x : RegIx) (f : BitVec 3) (s : State) : Result :=
  let r := s.readReg x
  .next (r.st.poke f r.val)

/-- PSH mode 2, push status word (R159). -/
def execPsh2 (_x : RegIx) (f : BitVec 3) (s : State) : Result := .next (s.push f s.sw)

/-- PSH mode 3, push zero (R160). -/
def execPsh3 (_x : RegIx) (f : BitVec 3) (s : State) : Result := .next (s.push f 0)

/-- MLD, memory load from the resident page (R163). -/
def execMld (x : RegIx) (o : BitVec 6) (s : State) : Result :=
  .next (s.writeReg x (s.bankRead (s.bankOffset o)))

/-- MST, memory store to the resident page (R164). -/
def execMst (x : RegIx) (o : BitVec 6) (s : State) : Result :=
  let r := s.readReg x
  .next (r.st.bankWrite (s.bankOffset o) r.val)

end Sys2Proof.Machine
end

