-- ==== Sys2Proof/Machine/System.lean ====
section
/-! DEFINITION. NOP, HLT and SYS (spec/40_system.md R100 to R111). In every meaning `pc` already points at the next instruction
(spec/10_state.md R22). -/

namespace Sys2Proof.Machine

/-- NOP (R100). -/
def execNop (s : State) : Result := .next s

/-- HLT subtype 0, stop (R101). -/
def execHlt0 (s : State) : Result := .next { s with run := .stopped }

/-- HLT subtype 1, pause (R102). A tick executes it in a RUNNING machine only, and `directExec` keeps STOPPED and FAULTED as they are
(assumption log 11). -/
def execHlt1 (s : State) : Result := .next { s with run := .paused }

/-- HLT subtype 2, pause (R102). -/
def execHlt2 (s : State) : Result := .next { s with run := .paused }

/-- HLT subtype 3, pause (R102). -/
def execHlt3 (s : State) : Result := .next { s with run := .paused }

/-- SYS 0, set hardware loop bounds: `LOOP.start` from `R[0]`, `LOOP.end` the immediate (R103). -/
def execSys0 (v : Byte) (s : State) : Result :=
  let r := s.readReg 0
  .next { r.st with loopStart := r.val, loopEnd := v }

/-- SYS 1, set loop count (R104). -/
def execSys1 (v : Byte) (s : State) : Result := .next { s with loopCount := v }

/-- SYS 2, write control word, kernel-gated (R105). -/
def execSys2 (v : Byte) (s : State) : Result := .next (s.privileged fun s => { s with cw := v })

/-- SYS 3, write status word, kernel-gated (R106). -/
def execSys3 (v : Byte) (s : State) : Result := .next (s.privileged fun s => { s with sw := v })

/-- SYS 4, switch active RAM page (R107). -/
def execSys4 (v : Byte) (s : State) : Result := .next (s.setPage v)

/-- SYS 5, write one interrupt-vector entry indexed by `R[0]`, kernel-gated (R108). -/
def execSys5 (v : Byte) (s : State) : Result :=
  .next (s.privileged fun s =>
    let r := s.readReg 0
    r.st.setVector r.val v)

/-- SYS 6, set interrupt mask, kernel-gated (R109). -/
def execSys6 (v : Byte) (s : State) : Result := .next (s.privileged fun s => { s with mask := v })

/-- SYS 7, reserved no-op (R110). -/
def execSys7 (_v : Byte) (s : State) : Result := .next s

end Sys2Proof.Machine
end

