-- ==== Sys2Proof/Machine/Dispatch.lean ====
section
/-! DEFINITION. `Execute` (spec/70_reset_and_hazards.md R303): one arm per instruction, each one call of its meaning. -/

namespace Sys2Proof.Machine

/-- The effect of an instruction on the state in which `pc` already points past it (spec/10_state.md R22). -/
def exec (i : Instr) (s : State) : Host.Outcome State Fault Refusal :=
  match i with
  | .nop => Sys2Proof.Machine.execNop s
  | .hlt0 => Sys2Proof.Machine.execHlt0 s
  | .hlt1 => Sys2Proof.Machine.execHlt1 s
  | .hlt2 => Sys2Proof.Machine.execHlt2 s
  | .hlt3 => Sys2Proof.Machine.execHlt3 s
  | .sys0 v => Sys2Proof.Machine.execSys0 v s
  | .sys1 v => Sys2Proof.Machine.execSys1 v s
  | .sys2 v => Sys2Proof.Machine.execSys2 v s
  | .sys3 v => Sys2Proof.Machine.execSys3 v s
  | .sys4 v => Sys2Proof.Machine.execSys4 v s
  | .sys5 v => Sys2Proof.Machine.execSys5 v s
  | .sys6 v => Sys2Proof.Machine.execSys6 v s
  | .sys7 v => Sys2Proof.Machine.execSys7 v s
  | .ldc x c v => Sys2Proof.Machine.execLdc x c v s
  | .jmp a => Sys2Proof.Machine.execJmp a s
  | .brc c o => Sys2Proof.Machine.execBrc c o s
  | .cal a => Sys2Proof.Machine.execCal a s
  | .ret0 => Sys2Proof.Machine.execRet0 s
  | .ret1 => Sys2Proof.Machine.execRet1 s
  | .inp x p => Sys2Proof.Machine.execInp x p s
  | .out x p => Sys2Proof.Machine.execOut x p s
  | .lds x k => Sys2Proof.Machine.execLds x k s
  | .sts x k => Sys2Proof.Machine.execSts x k s
  | .pop0 x f => Sys2Proof.Machine.execPop0 x f s
  | .pop1 x f => Sys2Proof.Machine.execPop1 x f s
  | .pop2 x f => Sys2Proof.Machine.execPop2 x f s
  | .pop3 x f => Sys2Proof.Machine.execPop3 x f s
  | .psh0 x f => Sys2Proof.Machine.execPsh0 x f s
  | .psh1 x f => Sys2Proof.Machine.execPsh1 x f s
  | .psh2 x f => Sys2Proof.Machine.execPsh2 x f s
  | .psh3 x f => Sys2Proof.Machine.execPsh3 x f s
  | .mld x o => Sys2Proof.Machine.execMld x o s
  | .mst x o => Sys2Proof.Machine.execMst x o s
  | .ldi x v => Sys2Proof.Machine.execLdi x v s
  | .mov0 x y => Sys2Proof.Machine.execMov0 x y s
  | .mov1 x y => Sys2Proof.Machine.execMov1 x y s
  | .mov2 x y => Sys2Proof.Machine.execMov2 x y s
  | .mov3 x y => Sys2Proof.Machine.execMov3 x y s
  | .adi x v => Sys2Proof.Machine.execAdi x v s
  | .ani x v => Sys2Proof.Machine.execAni x v s
  | .ori x v => Sys2Proof.Machine.execOri x v s
  | .xri x v => Sys2Proof.Machine.execXri x v s
  | .cpi x v => Sys2Proof.Machine.execCpi x v s
  | .tsi x v => Sys2Proof.Machine.execTsi x v s
  | .add x y z => Sys2Proof.Machine.execAdd x y z s
  | .adc x y z => Sys2Proof.Machine.execAdc x y z s
  | .vad x y z => Sys2Proof.Machine.execVad x y z s
  | .vac x y z => Sys2Proof.Machine.execVac x y z s
  | .sub x y z => Sys2Proof.Machine.execSub x y z s
  | .sbb x y z => Sys2Proof.Machine.execSbb x y z s
  | .vsb x y z => Sys2Proof.Machine.execVsb x y z s
  | .vsc x y z => Sys2Proof.Machine.execVsc x y z s
  | .or x y z => Sys2Proof.Machine.execOr x y z s
  | .and x y z => Sys2Proof.Machine.execAnd x y z s
  | .xor x y z => Sys2Proof.Machine.execXor x y z s
  | .imp x y z => Sys2Proof.Machine.execImp x y z s
  | .nor x y z => Sys2Proof.Machine.execNor x y z s
  | .nand x y z => Sys2Proof.Machine.execNand x y z s
  | .xnor x y z => Sys2Proof.Machine.execXnor x y z s
  | .nimp x y z => Sys2Proof.Machine.execNimp x y z s
  | .lsl x y z => Sys2Proof.Machine.execLsl x y z s
  | .lsr x y z => Sys2Proof.Machine.execLsr x y z s
  | .rol x y z => Sys2Proof.Machine.execRol x y z s
  | .asr x y z => Sys2Proof.Machine.execAsr x y z s
  | .lsli x y n => Sys2Proof.Machine.execLsli x y n s
  | .lsri x y n => Sys2Proof.Machine.execLsri x y n s
  | .roli x y n => Sys2Proof.Machine.execRoli x y n s
  | .asri x y n => Sys2Proof.Machine.execAsri x y n s
  | .muli x y n => Sys2Proof.Machine.execMuli x y n s
  | .muhi x y n => Sys2Proof.Machine.execMuhi x y n s
  | .divi x y n => Sys2Proof.Machine.execDivi x y n s
  | .modi x y n => Sys2Proof.Machine.execModi x y n s
  | .sqrt x y => Sys2Proof.Machine.execSqrt x y s
  | .clz x y => Sys2Proof.Machine.execClz x y s
  | .ctz x y => Sys2Proof.Machine.execCtz x y s
  | .popc x y => Sys2Proof.Machine.execPopc x y s

end Sys2Proof.Machine
end

