-- ==== Sys2Proof/Machine/Step.lean ====
section
/-! DEFINITION. One tick (spec/70_reset_and_hazards.md R303), and the state that fetches a given word next. -/

namespace Sys2Proof.Machine

/-- One tick, after what the environment delivers before it: nothing unless RUNNING; else interrupt check, fetch, `pc` increment,
decode, execute. FAULTED is a fault (spec/60_exceptions.md R284; assumption log 6). -/
def step (s : State) : Host.Outcome State Fault Refusal :=
  match s.takeInputs.run with
  | .running => exec (decode s.takeInputs.fetchedWord) s.takeInputs.readyToExecute
  | .paused => .next s.takeInputs
  | .stopped => .next s.takeInputs
  | .faulted => .fault .domainFault

/-- `s` with the clock running, nothing delivered before the next tick, and the word at the address that tick fetches from, in the
instruction store and, if its page is the cached one, in the cache (assumption log 12). It stands for the host's flash and start. -/
def State.withFetchWord (s : State) (nbits w : Nat) : State :=
  let s := { s with run := .running, inputs := [] :: s.inputs }
  let a := s.takeInputs.checkInterrupt.pc
  let word := BitVec.ofNat 16 (w % 2 ^ nbits)
  { s with
    ipool := s.ipool.write a.toNat word
    icache := if instrPage a = s.ipage then s.icache.write (branchOffset a).toNat word else s.icache }

end Sys2Proof.Machine
end

