-- ==== Sys2Proof/Machine/HostActions.lean ====
section
/-! DEFINITION. What the host does with the clock stopped, which no step takes (assumption log 9, 11): reset, the flash load, binding
a device, direct pool access and direct execution. -/

namespace Sys2Proof.Machine

/-- `Reset()`: every piece of the machine's state at its reset value; the host's configuration of the ports, which is a parameter
and not state (spec/10_state.md R37), the devices' past, and what the environment has yet to deliver stay
(spec/70_reset_and_hazards.md R300; assumption log 9). -/
def State.hostReset (s : State) : State :=
  { State.reset with devices := s.devices, deviceCalls := s.deviceCalls, inputs := s.inputs, draws := s.draws }

/-- `Flash(img)`: the whole instruction store replaced, the rest of it 0, and page 0 cached (spec/20_memory.md R56). -/
def State.flash (s : State) (img : List Word) : State :=
  let pool : Memory 16 := Memory.ofList img
  { s with ipool := pool, icache := pool.window 0 64, ipage := 0 }

/-- The flash of a ROM image's bytes (R57): refused, by name, when they are no image. -/
def State.flashRom (s : State) (bs : List Byte) : Except RomError State :=
  match romImage bs with
  | .ok img => .ok (s.flash img)
  | .error e => .error e

/-- `ConnectDevice`: `none` when a port of the range is bound already or the range leaves the port space (spec/20_memory.md R58;
spec/60_exceptions.md R271). -/
def State.connectDevice (s : State) (b : Binding) : Option State :=
  if b.base + b.size ≤ 256 ∧ s.devices.all (fun c => decide (c.base + c.size ≤ b.base) || decide (b.base + b.size ≤ c.base))
  then some { s with devices := b :: s.devices } else none

/-- A direct read of the pool, past the bank (spec/20_memory.md R48). -/
def State.poolRead (s : State) (a : Word) : Byte := Memory.read s.pool a.toNat

/-- A direct write of the pool, past the bank (R48). -/
def State.poolWrite (s : State) (a : Word) (v : Byte) : State := { s with pool := Memory.write s.pool a.toNat v }

/-- What an instruction executed in a STOPPED machine comes to: a DomainFault is the fault of the model (spec/60_exceptions.md R284);
after anything else the machine is still STOPPED, which only `Reset()` leaves (spec/10_state.md R36; spec/70_reset_and_hazards.md
R304). -/
def keepStopped : Result → Result
  | .next t => if t.run = .faulted then .fault .domainFault else .next { t with run := .stopped }
  | .fault f => .fault f
  | .refused r => .refused r

/-- Direct execution of a word between ticks: decode and execute, no fetch, no `pc` increment (spec/10_state.md R24).
A FAULTED machine executes nothing more until reset (spec/60_exceptions.md R284; spec/93_implementation_defined.md U2): the fault of the
model, as in `step`.
DESIGN CHOICE, assumption log 11: in a STOPPED machine R24 runs the instruction's rule, but two rules that set `RUN` meet R36 and R304,
which let only reset leave STOPPED. A HLT (R101, R102) leaves the machine STOPPED; a register shift by more than 7 (R284) answers the
fault of the model at once, so that nothing is executed after it. -/
def directExec (w : Word) (s : State) : Result :=
  match s.run with
  | .running => exec (decode w) s
  | .paused => exec (decode w) s
  | .stopped => keepStopped (exec (decode w) s)
  | .faulted => .fault .domainFault

end Sys2Proof.Machine
end

