-- ==== Sys2Proof/Safety.lean ====
section
/-! DEFINITION. What claims about runs are stated in: the invariant of the machine's state, and the states a correct program never
leaves or never reaches. -/

namespace Sys2Proof.Machine

/-- Every memory of the machine is in its canonical form. -/
def State.memoriesWf (s : State) : Prop :=
  Memory.wf 65536 s.pool = true ∧ Memory.wf 256 s.bank = true ∧ Memory.wf 65536 s.ipool = true ∧
  Memory.wf 64 s.icache = true ∧ Memory.wf 64 s.cs = true ∧ Memory.wf 256 s.outLatch = true ∧
  Memory.wf 256 s.inLatch = true ∧ Memory.wf nvec s.vt = true

/-- A clean bank holds what the pool holds for its page (spec/20_memory.md R45 b). -/
def State.bankAgrees (s : State) : Prop :=
  s.dirty = false → ∀ o : Byte, s.bankRead o = Memory.read s.pool (256 * s.page.toNat + o.toNat)

/-- The instruction cache holds what the store holds for its page (R55). -/
def State.cacheAgrees (s : State) : Prop :=
  ∀ i : BitVec 6, s.icache.read i.toNat = s.ipool.read (64 * s.ipage.toNat + i.toNat)

/-- What holds of the machine at reset and after every step: canonical memories, `VSP` in its range (spec/10_state.md R31), and the
two hidden copies in agreement with what they copy. -/
structure State.Inv (s : State) : Prop where
  memories : s.memoriesWf
  vspRange : s.vsp ≤ 65536
  bank     : s.bankAgrees
  cache    : s.cacheAgrees

/-- A correct program never reaches FAULTED (spec/60_exceptions.md R284; spec/10_state.md R36). -/
def State.safe (s : State) : Prop := s.run ≠ .faulted

/-- User mode: `CW.K = 0` (spec/60_exceptions.md R280). -/
def State.userMode (s : State) : Prop := s.kernel = false

end Sys2Proof.Machine
end

