-- ==== Sys2Proof/Certificates/Slice0/Obligations.lean ====
section
/-! DEFINITION. The statements for the provers. `Sys2Proof.Spec` holds the words they are written in: relations read off the spec's
rules in plain arithmetic, not the model's own functions. Most rules of the spec rest on its marked decisions
(spec/92_eei_decisions.md); a docstring names the decision where a statement does. -/

open Sys2Proof Sys2Proof.Machine

namespace Sys2Proof.Spec

/-! ## Registers and frames -/

/-- The general registers after an instruction that wrote `v` to `x` by a normal write: the write is dropped for register 0, register
0 is 0 if the instruction read it (`clears`), every other register is as it was (spec/10_state.md R12, R13). With `x = 0` it says
that no register was written. -/
structure RegistersAre (s t : State) (clears : Prop) (x : RegIx) (v : Byte) : Prop where
  written  : x ≠ 0 → t.reg x = v
  zeroRead : clears → t.reg 0 = 0
  zeroKept : ¬ clears → t.reg 0 = s.reg 0
  others   : ∀ j, j ≠ 0 → j ≠ x → t.reg j = s.reg j

/-- Every byte of data memory reads as before (spec/20_memory.md R45 c). -/
def MemoryKept (s t : State) : Prop := ∀ a : Word, t.mem a = s.mem a

/-- Memory reads `v` at `a`, and every other byte as before. -/
def MemoryIs (s t : State) (a : Word) (v : Byte) : Prop := t.mem a = v ∧ ∀ b, b ≠ a → t.mem b = s.mem b

/-- Nothing changed but general registers. -/
structure OnlyRegisters (s t : State) : Prop where
  rest   : t = { s with regs := t.regs }
  memory : MemoryKept s t

/-- Nothing changed but general registers and the status word. -/
structure OnlyRegistersAndFlags (s t : State) : Prop where
  rest   : t = { s with regs := t.regs, sw := t.sw }
  memory : MemoryKept s t

/-- The second source of a three-register form: 0 if register 0 has just been read as the first (R15, decision D13). -/
def second (s : State) (y z : RegIx) : Byte := if y = 0 ∧ z = 0 then 0 else s.reg z

/-- Instruction `i` completes from `s`: some value `v` and the new status word are as `good` says, `v` is written to `x` normally,
and nothing else changes. `clears` says whether the instruction reads register 0. -/
def Completes (i : Instr) (s : State) (clears : Prop) (x : RegIx) (good : Byte → Byte → Prop) : Prop :=
  ∃ t v, exec i s = .next t ∧ good v t.sw ∧ RegistersAre s t clears x v ∧ OnlyRegistersAndFlags s t

/-! ## The status word -/

/-- The flag shape `FL(c, a, v, r)` (spec/45_alu.md R190, R191): six flags given, the error flag and the reserved bit kept. Parity 1
means an even number of 1 bits (decision D25). -/
structure FlagsAre (old new : Byte) (c a v : Prop) (r : Byte) : Prop where
  carry    : swC new = true ↔ c
  auxCarry : swA new = true ↔ a
  overflow : swV new = true ↔ v
  zero     : swZ new = true ↔ r.toNat = 0
  sign     : swS new = true ↔ 128 ≤ r.toNat
  parity   : swP new = true ↔ ((Finset.range 8).filter fun i => r.toNat.testBit i = true).card % 2 = 0
  error    : swE new = swE old
  reserved : swR3 new = swR3 old

/-- The error flag is set and the other seven bits of the status word are as they were (spec/60_exceptions.md R270). -/
def ErrorSet (old new : Byte) : Prop := swE new = true ∧ ∀ n, n ≠ 1 → new.getLsbD n = old.getLsbD n

/-- The tests of a condition code, `alt` being `CW.T` (spec/41_control.md R121, decision D8). -/
def Holds (alt : Bool) (c : BitVec 3) (sw : Byte) : Prop :=
  (alt = false ∧ (c.toNat = 0 ∨ (c.toNat = 1 ∧ swZ sw = true) ∨ (c.toNat = 2 ∧ swZ sw = false) ∨ (c.toNat = 3 ∧ swC sw = true) ∨
    (c.toNat = 4 ∧ swC sw = false) ∨ (c.toNat = 5 ∧ swS sw = true) ∨ (c.toNat = 6 ∧ swS sw = false) ∨
    (c.toNat = 7 ∧ swV sw = true))) ∨
  (alt = true ∧ ((c.toNat = 0 ∧ swE sw = true) ∨ (c.toNat = 1 ∧ swE sw = false) ∨ (c.toNat = 2 ∧ swP sw = true) ∨
    (c.toNat = 3 ∧ swP sw = false) ∨ (c.toNat = 4 ∧ swA sw = true) ∨ (c.toNat = 5 ∧ swA sw = false) ∨
    (c.toNat = 6 ∧ swS sw ≠ swV sw) ∨ (c.toNat = 7 ∧ swS sw = swV sw)))

/-! ## The units, as relations between operands, result and status words -/

/-- `v` and `new` are the sum of `a`, `b` and the carry in (R192): overflow means a signed sum outside -128 to 127. -/
def Sum (old a b : Byte) (cin : Bool) (v new : Byte) : Prop :=
  v.toNat = (a.toNat + b.toNat + cin.toNat) % 256 ∧
  FlagsAre old new (256 ≤ a.toNat + b.toNat + cin.toNat) (16 ≤ a.toNat % 16 + b.toNat % 16 + cin.toNat)
    (a.toInt + b.toInt + cin.toNat < -128 ∨ 127 < a.toInt + b.toInt + cin.toNat) v

/-- `v` and `new` are the difference of `a`, `b` and the borrow in (R193, decision D26): carry and aux-carry are borrows. -/
def Difference (old a b : Byte) (bin : Bool) (v new : Byte) : Prop :=
  (v.toNat : Int) = ((a.toNat : Int) - b.toNat - bin.toNat) % 256 ∧
  FlagsAre old new (a.toNat < b.toNat + bin.toNat) (a.toNat % 16 < b.toNat % 16 + bin.toNat)
    (a.toInt - b.toInt - bin.toNat < -128 ∨ 127 < a.toInt - b.toInt - bin.toNat) v

/-- Two 4-bit sums side by side (R194, decision D27). -/
def LaneSum (old a b : Byte) (cl ch : Bool) (v new : Byte) : Prop :=
  v.toNat % 16 = (a.toNat % 16 + b.toNat % 16 + cl.toNat) % 16 ∧
  v.toNat / 16 = (a.toNat / 16 + b.toNat / 16 + ch.toNat) % 16 ∧
  FlagsAre old new (16 ≤ a.toNat / 16 + b.toNat / 16 + ch.toNat) (16 ≤ a.toNat % 16 + b.toNat % 16 + cl.toNat)
    ((128 ≤ a.toNat ↔ 128 ≤ b.toNat) ∧ ¬(128 ≤ v.toNat ↔ 128 ≤ a.toNat)) v

/-- Two 4-bit differences side by side (R195, decision D27). -/
def LaneDifference (old a b : Byte) (bl bh : Bool) (v new : Byte) : Prop :=
  ((v.toNat % 16 : Nat) : Int) = ((a.toNat % 16 : Nat) - (b.toNat % 16 : Nat) - bl.toNat : Int) % 16 ∧
  ((v.toNat / 16 : Nat) : Int) = ((a.toNat / 16 : Nat) - (b.toNat / 16 : Nat) - bh.toNat : Int) % 16 ∧
  FlagsAre old new (a.toNat / 16 < b.toNat / 16 + bh.toNat) (a.toNat % 16 < b.toNat % 16 + bl.toNat)
    (¬(128 ≤ a.toNat ↔ 128 ≤ b.toNat) ∧ ¬(128 ≤ v.toNat ↔ 128 ≤ a.toNat)) v

/-- A result with carry, aux-carry and overflow cleared: the boolean operations (R197) and the math unit (spec/46_shift_math.md R250,
decision D29). -/
def Plain (old v new : Byte) : Prop := FlagsAre old new False False False v

/-- A bitwise operation: bit `n` of the result is `op` of the operands' bits `n`. -/
def Bitwise (op : Bool → Bool → Bool) (old a b v new : Byte) : Prop :=
  (∀ n, n < 8 → v.getLsbD n = op (a.getLsbD n) (b.getLsbD n)) ∧ Plain old v new

/-- The shape of a shift by `n`: a copy that leaves the status word alone if `n` is 0, else the given result and carry, aux-carry and
overflow cleared (spec/46_shift_math.md R230, decision D28; R231). -/
def Shifted (old a : Byte) (n : Nat) (result : Byte → Prop) (carry : Prop) (v new : Byte) : Prop :=
  (n = 0 → v = a ∧ new = old) ∧ (n ≠ 0 → result v ∧ FlagsAre old new carry False False v)

/-- Logical left shift (R232). -/
def ShiftedLeft (old a : Byte) (n : Nat) : Byte → Byte → Prop :=
  Shifted old a n (fun v => v.toNat = a.toNat * 2 ^ n % 256) (a.toNat.testBit (8 - n) = true)

/-- Logical right shift (R233). -/
def ShiftedRight (old a : Byte) (n : Nat) : Byte → Byte → Prop :=
  Shifted old a n (fun v => v.toNat = a.toNat / 2 ^ n) (a.toNat.testBit (n - 1) = true)

/-- The nine bits of carry and byte after a rotate left by `n` (R234). -/
def nineBits (old a : Byte) (n : Nat) : Nat :=
  ((swC old).toNat * 256 + a.toNat) * 2 ^ n % 512 + ((swC old).toNat * 256 + a.toNat) / 2 ^ (9 - n)

/-- Rotate left through carry (R234, decision D28). -/
def Rotated (old a : Byte) (n : Nat) : Byte → Byte → Prop :=
  Shifted old a n (fun v => v.toNat = nineBits old a n % 256) (256 ≤ nineBits old a n)

/-- Arithmetic right shift (R235, decision D28). -/
def ShiftedArithmetic (old a : Byte) (n : Nat) : Byte → Byte → Prop :=
  Shifted old a n (fun v => v.toInt = a.toInt / 2 ^ n) (a.toNat.testBit (n - 1) = true)

/-! ## Memory, control and interrupts -/

/-- What a stack access at address `a` changes: some registers, the status word, the stack pointer (now `n`), and the bank window,
which now holds the page of `a` (spec/20_memory.md R49). -/
def StackAccess (s t : State) (a : Word) (n : Nat) : Prop :=
  t = { s with regs := t.regs, sw := t.sw, vsp := n, pool := t.pool, bank := t.bank, page := a.extractLsb' 8 8, dirty := t.dirty }

/-- The bank is dirty after a read at `a` only if it was and no page was switched (spec/20_memory.md R44). -/
def DirtyAfterRead (s t : State) (a : Word) : Prop := t.dirty = true ↔ s.dirty = true ∧ a.extractLsb' 8 8 = s.page

/-- A stack operation that finds no slot: the error flag is set, register 0 is cleared if it was read before the check, nothing else
changes (spec/43_stack_memory.md R151). -/
def Aborts (i : Instr) (s : State) (clears : Prop) : Prop :=
  ∃ t, exec i s = .next t ∧ RegistersAre s t clears 0 0 ∧ ErrorSet s.sw t.sw ∧ OnlyRegistersAndFlags s t

/-- The target of JMP and CAL (spec/41_control.md R122). -/
def jumpTarget (s : State) (a : BitVec 11) : Nat := if s.cw.getLsbD 1 = true then a.toNat * 64 % 65536 else a.toNat

/-- The value of internal register `k` (spec/42_port_internal.md R142, decision D14). -/
def internalValue (s : State) (k : BitVec 3) : Nat :=
  match k.toNat with
  | 0 => s.ap.toNat
  | 1 => s.csp.toNat
  | 2 => s.sw.toNat
  | 3 => s.cw.toNat
  | 4 => s.loopPtr.toNat
  | 5 => s.pc.toNat % 64
  | 6 => s.pc.toNat % 256
  | _ => s.pc.toNat / 256

/-- The interrupt check serves request `q` (spec/60_exceptions.md R277, decision D20): interrupts are enabled and `q` strictly exceeds
the priority of the top active entry, if there is one. -/
def Serves (s : State) (q : Irq) : Prop :=
  s.cw.getLsbD 7 = true ∧ ∀ top rest, s.act = top :: rest → top.priority.toNat < q.priority.toNat

/-- `t` is `s` after the entry into the handler of `q`, `rest` still pending (R278): the return address is pushed, `pc` is the vector's
entry unscaled, `q` is active, nothing else changes. -/
structure Entered (s t : State) (q : Irq) (rest : List Irq) : Prop where
  frame   : t = { s with cs := t.cs, csp := s.csp + 1, pc := t.pc, pend := rest, act := q :: s.act }
  pushed  : t.cs.read s.csp.toNat = s.pc
  kept    : ∀ k, k ≠ s.csp.toNat → t.cs.read k = s.cs.read k
  handler : t.pc.toNat = (Memory.read s.vt (q.vector.toNat % 16)).toNat
  memory  : MemoryKept s t

/-- Two states differ at most in the instruction cache. -/
def SameButCache (s t : State) : Prop := t = { s with icache := t.icache, ipage := t.ipage }

/-- The instructions that move the hardware stack's pointer (spec/43_stack_memory.md R152 to R160). -/
def MovesStack : Instr → Prop
  | .pop0 _ _ | .pop2 _ _ | .pop3 _ _ | .psh0 _ _ | .psh2 _ _ | .psh3 _ _ => True
  | _ => False

/-- The instructions that can switch the resident page: SYS 4, POP and PSH (spec/20_memory.md R44, R49). -/
def SwitchesPage : Instr → Prop
  | .sys4 _ | .pop0 _ _ | .pop1 _ _ | .pop2 _ _ | .pop3 _ _ | .psh0 _ _ | .psh1 _ _ | .psh2 _ _ | .psh3 _ _ => True
  | _ => False

/-- A shift by register whose amount is above 7 (spec/46_shift_math.md R244). -/
def ShiftsTooFar (i : Instr) (s : State) : Prop :=
  ∃ x y z, (i = .lsl x y z ∨ i = .lsr x y z ∨ i = .rol x y z ∨ i = .asr x y z) ∧ 7 < (second s y z).toNat

/-- A kernel-gated operation (spec/60_exceptions.md R280). -/
def Gated (i : Instr) : Prop :=
  (∃ v, i = .sys2 v ∨ i = .sys3 v ∨ i = .sys5 v ∨ i = .sys6 v) ∨
  ∃ x k, i = .sts x k ∧ (k = 2 ∨ k = 3 ∨ k = 5 ∨ k = 6 ∨ k = 7)

/-- A stack operation whose bounds check fails (spec/43_stack_memory.md R151). -/
def OutOfBounds (i : Instr) (s : State) : Prop :=
  (∃ x f, (i = .pop0 x f ∨ i = .pop1 x f ∨ i = .pop2 x f ∨ i = .pop3 x f ∨ i = .psh1 x f) ∧ s.vsp < 1 + f.toNat) ∨
  ∃ x f, (i = .psh0 x f ∨ i = .psh2 x f ∨ i = .psh3 x f) ∧ 65535 < s.vsp + f.toNat

/-- A write of the whole status word that succeeds: SYS 3 and STS 2 in kernel mode, POP mode 2 of an occupied slot (R18). -/
def WritesStatusWord (i : Instr) (s : State) : Prop :=
  (s.kernel = true ∧ ((∃ v, i = .sys3 v) ∨ ∃ x, i = .sts x 2)) ∨ ∃ x f, i = .pop2 x f ∧ 1 + f.toNat ≤ s.vsp

/-- The instructions that are no ALU operation and do not name the status word as what they write: those R17 of spec/10_state.md lists,
and SYS and STS but for the two that write the status word (spec/40_system.md R103 to R110, spec/42_port_internal.md R143). -/
def LeavesFlags : Instr → Prop
  | .nop | .hlt0 | .hlt1 | .hlt2 | .hlt3 | .jmp _ | .brc _ _ | .cal _ | .ret0 | .ret1 | .inp _ _ | .out _ _ | .lds _ _ | .mld _ _
  | .mst _ _ | .ldi _ _ | .ldc _ _ _ | .mov0 _ _ | .mov1 _ _ | .mov2 _ _ | .mov3 _ _ | .pop0 _ _ | .pop1 _ _ | .pop3 _ _
  | .psh0 _ _ | .psh1 _ _ | .psh2 _ _ | .psh3 _ _ | .sys0 _ | .sys1 _ | .sys2 _ | .sys4 _ | .sys5 _ | .sys6 _ | .sys7 _ => True
  | .sts _ k => k ≠ 2
  | _ => False

end Sys2Proof.Spec

open Sys2Proof.Spec

/-! ## Encoding (spec/30_encoding.md) -/

/-- R86 with R80, R81 (the opcode numbers and field roles are decisions D1, D5): decoding the word of an instruction gives it back, with
every operand at every value its field can hold. -/
def Obligations.DecodeOfEncodeIsTheInstruction : Prop := ∀ i : Instr, decode (encode i) = i

/-- R86: the encoder puts the opcode in bits 15:11 and each field of the class at its place, 0 in ignored bits; decoding a well-formed
record's word recovers the record; encoding a decoded word gives the word exactly when its ignored bits are 0; the worked words. -/
def Obligations.EncodeInvertsDecodeOnFields : Prop :=
  (∀ f : Fields, f.wf (classOf f.op) = true →
    (encodeFields f).toNat = f.op.toNat * 2048 +
      (match classOf f.op with
        | .n => 0
        | .s1 => f.kind.toNat
        | .s2 => f.kind.toNat
        | .ri8 => f.x.toNat * 256 + f.y.toNat
        | .rrr => f.x.toNat * 256 + f.y.toNat * 32 + f.z.toNat
        | .w11 => f.x.toNat
        | .r6 => f.x.toNat * 256 + f.y.toNat
        | .rr => f.x.toNat * 256 + f.y.toNat * 32
        | .rrt => f.x.toNat * 256 + f.y.toNat * 32 + f.kind.toNat * 8
        | .rrtz => f.x.toNat * 256 + f.y.toNat * 32 + f.kind.toNat * 8 + f.z.toNat) ∧
    decodeFields (encodeFields f) = { f with raw := encodeFields f }) ∧
  (∀ w : Word, (decodeFields w).wf (classOf (decodeFields w).op) = true ∧
    (encodeFields (decodeFields w) = w ↔ w &&& ignoredBits (classOf (decodeFields w).op) = 0)) ∧
  encode (.ldi 1 0x2A) = 0x812A ∧ encode (.ldc 2 0 0x10) = 0x1A10 ∧ encode (.cal 0x100) = 0x3100 ∧ encode (.add 3 1 2) = 0xC322

/-- R70, R83, R84 over the rows of R80, R81 (decisions D1 to D5): every word matches the mask and match of exactly one kind of
instruction, and that is the kind it decodes to. -/
def Obligations.EveryWordMatchesExactlyItsRow : Prop :=
  ∀ w : Word, w &&& (decode w).row.1 = (decode w).row.2 ∧
    ∀ j : Instr, w &&& j.row.1 = j.row.2 → j.ctorIdx = (decode w).ctorIdx

/-- Worked words of the rules' own examples, one for each layout of R72, decode to the instruction the rule names. -/
def Obligations.SpelledWordsDecode : Prop :=
  decode 0b0000000000000000 = .nop ∧ decode 0b0000100000000001 = .hlt1 ∧ decode 0b0001010000000011 = .sys4 3 ∧
  decode 0b0001101000010000 = .ldc 2 0 0x10 ∧ decode 0b0010000100000000 = .jmp 0x100 ∧ decode 0b0010101000000101 = .brc 2 5 ∧
  decode 0b0011000100000000 = .cal 0x100 ∧ decode 0b0011100000000001 = .ret1 ∧ decode 0b0100001100010000 = .inp 3 0x10 ∧
  decode 0b0101100101000000 = .sts 1 2 ∧ decode 0b0110001000101000 = .pop1 2 1 ∧ decode 0b0111000100000101 = .mld 1 5 ∧
  decode 0b1000000100101010 = .ldi 1 0x2A ∧ decode 0b1000101000100000 = .mov0 2 1 ∧ decode 0b1100001100100010 = .add 3 1 2 ∧
  decode 0b1110101100111111 = .asri 3 1 7 ∧ decode 0b1111001100110101 = .divi 3 1 5 ∧ decode 0b1111101100111000 = .popc 3 1

/-! ## The step (spec/70_reset_and_hazards.md) -/

/-- R303: with the clock running after what the environment delivers, the step executes the instruction that the word fetched after
the interrupt check decodes to, from the state with that word's page cached and `pc` moved past it. -/
def Obligations.StepRunsTheDecodedInstruction : Prop :=
  ∀ (s : State) (i : Instr), s.takeInputs.run = .running → decode s.takeInputs.fetchedWord = i →
    step s = exec i s.takeInputs.readyToExecute

/-- R303 with spec/20_memory.md R55 and spec/10_state.md R22 (decision D9): with nothing delivered and nothing pending, the step of a
running machine executes the word of the instruction store at `pc`, with `pc` already moved past it. -/
def Obligations.StepFetchesFromTheInstructionStore : Prop :=
  ∀ s : State, s.run = .running → s.inputs = [] → s.pend = [] → s.cacheAgrees →
    ∃ t, SameButCache s t ∧ t.cacheAgrees ∧
      step s = exec (decode (s.ipool.read s.pc.toNat)) { t with pc := BitVec.ofNat 16 (s.pc.toNat + 1) }

/-- R303, R304 (decision D24) and spec/60_exceptions.md R284 (decision D28): a step never refuses; it faults exactly when the machine is
FAULTED, always with DomainFault; a paused or stopped machine takes what the environment delivers and nothing else happens. STOPPED and
FAULTED are left by no event, no step and no direct execution, only by reset (spec/10_state.md R36). Direct execution (R24, decision D40)
is `exec` of the decoded word while the machine is running or paused, and the fault in a FAULTED machine, which executes nothing more;
in a STOPPED machine the instruction runs and the machine stays STOPPED, or, where the instruction sets FAULTED, there is no next state
but DomainFault. That a HLT gives way to STOPPED there, and that the fault comes with the shift itself, is the model's choice (assumption
log 11), as it is that the host's stop leaves a FAULTED machine as it is (assumption log 13). -/
def Obligations.StepOutcomesFollowTheRunState : Prop :=
  ∀ s : State,
    (∀ r, step s ≠ .refused r) ∧
    (∀ f, step s = .fault f ↔ s.takeInputs.run = .faulted) ∧
    (s.takeInputs.run = .paused ∨ s.takeInputs.run = .stopped → step s = .next s.takeInputs) ∧
    (s.takeInputs.run = .running → ∃ t, step s = .next t) ∧
    (s.run = .stopped ∨ s.run = .faulted →
      (∀ e, (s.deliver e).run = s.run) ∧ s.takeInputs.run = s.run ∧ (∀ t, step s = .next t → t.run = s.run) ∧
      ∀ w t, directExec w s = .next t → t.run = s.run) ∧
    s.hostReset.run = .paused ∧
    ∀ w : Word,
      (s.run = .running ∨ s.run = .paused → directExec w s = exec (decode w) s) ∧
      (s.run = .stopped → ∃ t, exec (decode w) s = .next t ∧
        directExec w s = if t.run = .faulted then .fault .domainFault else .next { t with run := .stopped }) ∧
      (s.run = .faulted → directExec w s = .fault .domainFault)

/-- The invariant of `State.Inv` (canonical memories; `VSP` at most 65536, spec/10_state.md R31; a clean bank agrees with the pool,
spec/20_memory.md R45 b; the instruction cache agrees with the store, R55) is kept by every step. -/
def Obligations.StepKeepsTheMachineInvariant : Prop := ∀ s t : State, s.Inv → step s = .next t → t.Inv

/-- The invariant holds at reset. -/
def Obligations.ResetMeetsTheMachineInvariant : Prop := State.reset.Inv

/-- spec/10_state.md R38 and R300 (decision D32): the value of every piece of the spec's state at reset. The model's own fields
(assumption log 2 to 5) are not named. -/
def Obligations.ResetValuesAreTheSpecs : Prop :=
  (∀ i, State.reset.reg i = 0) ∧ State.reset.sw = 0 ∧ State.reset.cw = 1 ∧ State.reset.pc = 0 ∧
  (∀ k, State.reset.cs.read k = 0) ∧ State.reset.csp = 0 ∧ State.reset.ap = 0 ∧ State.reset.loopStart = 0 ∧
  State.reset.loopEnd = 0 ∧ State.reset.loopCount = 0 ∧ State.reset.loopPtr = 0 ∧ State.reset.vsp = 0 ∧
  (∀ a, State.reset.poolRead a = 0) ∧ (∀ o, State.reset.bankRead o = 0) ∧ State.reset.page = 0 ∧ State.reset.dirty = false ∧
  (∀ a, State.reset.ipool.read a = 0) ∧ (∀ a, State.reset.icache.read a = 0) ∧ State.reset.ipage = 0 ∧
  (∀ p, Memory.read State.reset.outLatch p = 0) ∧ (∀ p, Memory.read State.reset.inLatch p = 0) ∧
  (∀ v, Memory.read State.reset.vt v = 0) ∧ State.reset.mask = 0 ∧ State.reset.pend = [] ∧ State.reset.act = [] ∧
  State.reset.run = .paused

/-- spec/60_exceptions.md R282, R280 (decision D38): no step leaves user mode, and in user mode no step changes the control word, the
interrupt mask or the vector table, whatever the environment delivers. -/
def Obligations.UserModeIsNeverLeft : Prop :=
  ∀ s t : State, s.userMode → step s = .next t → t.userMode ∧ t.cw = s.cw ∧ t.mask = s.mask ∧ t.vt = s.vt

/-- R55: the instruction cache is hidden. From two states that differ only in caches that agree with the store, steps have the same
outcome, and next states again differ only in the cache. -/
def Obligations.InstructionCacheIsInvisible : Prop :=
  ∀ s s' : State, SameButCache s s' → s.cacheAgrees → s'.cacheAgrees →
    (∀ f, step s = .fault f ↔ step s' = .fault f) ∧
    (∀ t, step s = .next t → ∃ t', step s' = .next t' ∧ SameButCache t t')

/-- spec/20_memory.md R56 (decision D34): the host's flash replaces the whole store, 0 past the end of the image, and makes page 0 the
cached page. spec/70_reset_and_hazards.md R300, R301 (decision D32) and R303, with the start of assumption log 12: after reset, flash
and start, the first step executes the image's first word. -/
def Obligations.FlashLoadsTheWholeStore : Prop :=
  ∀ (s : State) (img : List Word), img.length ≤ 65536 →
    (∀ a : Word, (s.flash img).ipool.read a.toNat = img.getD a.toNat 0) ∧ (s.flash img).ipage = 0 ∧ (s.flash img).cacheAgrees ∧
    s.flash img = { s with ipool := (s.flash img).ipool, icache := (s.flash img).icache, ipage := 0 } ∧
    step ({ State.reset.flash img with run := .running }) =
      exec (decode (img.getD 0 0)) { State.reset.flash img with run := .running, pc := 1 }

/-! ## What changes what -/

/-- spec/10_state.md R19, R21 to R31, spec/60_exceptions.md R272, R275, R280 and R304: which instructions can change each control
register, and that only kernel mode changes the gated ones. -/
def Obligations.ControlRegistersHaveTheseWritersOnly : Prop :=
  ∀ (i : Instr) (s t : State), exec i s = .next t →
    (t.cw ≠ s.cw → s.kernel = true ∧ ((∃ v, i = .sys2 v) ∨ ∃ x, i = .sts x 3)) ∧
    (t.mask ≠ s.mask → s.kernel = true ∧ ∃ v, i = .sys6 v) ∧
    (t.vt ≠ s.vt → s.kernel = true ∧ ∃ v, i = .sys5 v) ∧
    (t.ap ≠ s.ap → ∃ x, i = .sts x 0) ∧
    (t.csp ≠ s.csp → (∃ a, i = .cal a) ∨ i = .ret0 ∨ i = .ret1 ∨ ∃ x, i = .sts x 1) ∧
    (t.cs ≠ s.cs → (∃ a, i = .cal a) ∨ i = .ret1) ∧
    (t.loopStart ≠ s.loopStart ∨ t.loopEnd ≠ s.loopEnd → ∃ v, i = .sys0 v) ∧
    (t.loopCount ≠ s.loopCount → ∃ v, i = .sys1 v) ∧
    (t.loopPtr ≠ s.loopPtr → ∃ x, i = .sts x 4) ∧
    (t.vsp ≠ s.vsp → MovesStack i) ∧
    (t.pc ≠ s.pc → (∃ a, i = .jmp a ∨ i = .cal a) ∨ (∃ c o, i = .brc c o) ∨ i = .ret0 ∨ i = .ret1 ∨
      s.kernel = true ∧ ∃ x k, i = .sts x k ∧ (k = 5 ∨ k = 6 ∨ k = 7)) ∧
    (t.run ≠ s.run → i = .hlt0 ∨ i = .hlt1 ∨ i = .hlt2 ∨ i = .hlt3 ∨ ShiftsTooFar i s)

/-- spec/20_memory.md R43, R44, R49, R52, R55, R60, R61 and spec/60_exceptions.md R273: which instructions can change the bank window,
the port latches and the interrupt stacks; none changes the instruction store or its cache. The clauses on the model's own fields are
its choices and no rules: `draws` (assumption log 2, 3), `deviceCalls` (log 3), `devices` (log 4) and `inputs` (log 5). -/
def Obligations.MemoriesAndPortsHaveTheseWritersOnly : Prop :=
  ∀ (i : Instr) (s t : State), exec i s = .next t →
    (t.page ≠ s.page ∨ t.pool ≠ s.pool → SwitchesPage i) ∧
    (t.bank ≠ s.bank ∨ t.dirty ≠ s.dirty → SwitchesPage i ∨ ∃ x o, i = .mst x o) ∧
    (t.outLatch ≠ s.outLatch → ∃ x p, i = .out x p) ∧
    (t.inLatch ≠ s.inLatch → ∃ x p b, i = .inp x p ∧ s.deviceAt p = some b) ∧
    (t.draws ≠ s.draws → (∃ x p b, i = .inp x p ∧ s.deviceAt p = some b) ∨ ∃ x y, i = .divi x y 0 ∨ i = .modi x y 0) ∧
    (t.deviceCalls ≠ s.deviceCalls → ∃ x p b, (i = .inp x p ∨ i = .out x p) ∧ s.deviceAt p = some b) ∧
    t.ipool = s.ipool ∧ t.icache = s.icache ∧ t.ipage = s.ipage ∧ t.pend = s.pend ∧ t.act = s.act ∧ t.devices = s.devices ∧
    t.inputs = s.inputs

/-- Which byte of data memory an instruction can change (spec/43_stack_memory.md R157 to R164, spec/20_memory.md R46, R47): PSH at the
slot it addresses, MST in the resident page; nothing else, a page switch included. The address is the model's `slotAddr` and
`bankOffset`. -/
def Obligations.MemoryChangesOnlyWhereAStoreAddresses : Prop :=
  ∀ (i : Instr) (s t : State) (a : Word), s.bankAgrees → exec i s = .next t → t.mem a ≠ s.mem a →
    (∃ x f, (i = .psh0 x f ∨ i = .psh2 x f ∨ i = .psh3 x f) ∧ s.vsp + f.toNat ≤ 65535 ∧ a = slotAddr (s.vsp + f.toNat)) ∨
    (∃ x f, i = .psh1 x f ∧ 1 + f.toNat ≤ s.vsp ∧ a = slotAddr (s.vsp - 1 - f.toNat)) ∨
    ∃ x o, i = .mst x o ∧ a = s.page ++ s.bankOffset o

/-- spec/10_state.md R13 and R14: a normal write stores in registers 1 to 7 and does nothing, no flag included, for register 0; the
direct write of LDI, and of LDC when its condition is met (whatever the condition tables say), stores in every register; and no other instruction puts a value other than 0 in register 0. -/
def Obligations.RegisterZeroIsLoadedByLdiAndLdcOnly : Prop :=
  (∀ (s : State) (x : RegIx) (v : Byte), RegistersAre s (s.writeReg x v) False x v ∧ OnlyRegisters s (s.writeReg x v) ∧
    s.writeReg 0 v = s) ∧
  (∀ (s t : State) (x : RegIx) (v : Byte), exec (.ldi x v) s = .next t → t.reg x = v) ∧
  (∀ (s t : State) (x : RegIx) (c : BitVec 3) (v : BitVec 5), s.cond c = true → exec (.ldc x c v) s = .next t →
    t.reg x = v.setWidth 8) ∧
  ∀ (i : Instr) (s t : State), exec i s = .next t → t.reg 0 ≠ s.reg 0 →
    t.reg 0 = 0 ∨ (∃ v, i = .ldi 0 v) ∨ ∃ c v, i = .ldc 0 c v

/-- spec/10_state.md R17 (decision D37) and spec/45_alu.md R190: every instruction that is no ALU operation and does not write the
whole status word by name leaves all of it alone or sets the error flag alone; every instruction keeps the reserved bit unless it writes
the whole word. -/
def Obligations.OnlyAluOperationsWriteTheFlags : Prop :=
  ∀ (i : Instr) (s t : State), exec i s = .next t →
    (LeavesFlags i → t.sw = s.sw ∨ ErrorSet s.sw t.sw) ∧
    (swR3 t.sw ≠ swR3 s.sw → WritesStatusWord i s)

/-- spec/60_exceptions.md R270: an instruction sets the error flag for one of the three listed reasons or by writing the whole status
word, and for each listed reason it does set it. -/
def Obligations.ErrorFlagIsSetForTheseCausesOnly : Prop :=
  ∀ (i : Instr) (s t : State), exec i s = .next t →
    (swE s.sw = false → swE t.sw = true →
      (Gated i ∧ s.kernel = false) ∨ OutOfBounds i s ∨ (∃ x y, i = .divi x y 0 ∨ i = .modi x y 0) ∨ WritesStatusWord i s) ∧
    ((Gated i ∧ s.kernel = false) ∨ OutOfBounds i s ∨ (∃ x y, i = .divi x y 0 ∨ i = .modi x y 0) → swE t.sw = true)

/-- spec/10_state.md R17, spec/70_reset_and_hazards.md R313: the error flag is sticky. A step of the machine clears it only by a write
of the whole status word, executed from the state the tick executes in. -/
def Obligations.ErrorFlagIsSticky : Prop :=
  ∀ s t : State, step s = .next t → swE s.sw = true → swE t.sw = false →
    s.takeInputs.run = .running ∧ WritesStatusWord (decode s.takeInputs.fetchedWord) s.takeInputs.readyToExecute

/-! ## Interrupts (spec/60_exceptions.md) and run control -/

/-- R277, R278 (decisions D18, D20): the check serves the top pending request exactly when interrupts are enabled and its priority
strictly exceeds that of the top active entry; else it changes nothing. -/
def Obligations.InterruptCheckServesTheTopRequest : Prop :=
  ∀ (s : State), (s.pend = [] → s.checkInterrupt = s) ∧
    ∀ (q : Irq) (rest : List Irq), s.pend = q :: rest →
      (Serves s q → Entered s s.checkInterrupt q rest) ∧ (¬ Serves s q → s.checkInterrupt = s)

/-- R278 with R303: in the tick that serves a request, the handler's first instruction is fetched from the store and executed. -/
def Obligations.InterruptedStepRunsTheHandlersFirstInstruction : Prop :=
  ∀ (s : State) (q : Irq) (rest : List Irq), s.run = .running → s.inputs = [] → s.cacheAgrees → s.pend = q :: rest → Serves s q →
    ∃ e t : State, Entered s e q rest ∧ SameButCache e t ∧ t.cacheAgrees ∧
      step s = exec (decode (s.ipool.read (Memory.read s.vt (q.vector.toNat % 16)).toNat)) { t with pc := e.pc + 1 }

/-- R279 (decision D22) with spec/41_control.md R127 (decision D12): a return that is executed after an entry, from the state of the
tick, in which the word's page may have been cached and `pc` has moved on (any `p`, so `e.pc + 1` too), resumes at the interrupted
address and leaves the request on the active stack; the status word, the control word, every general register and all of memory are as
the interrupted code had them. And where the handler's first word is RET 0, the step
that serves the request does just that (R278, decision D18, with spec/70_reset_and_hazards.md R303). -/
def Obligations.ReturnFromInterruptResumesAtThePushedAddress : Prop :=
  ∀ (s : State) (q : Irq) (rest : List Irq),
    let Resumes (t : State) : Prop := t.pc = s.pc ∧ t.csp = s.csp ∧ t.act = q :: s.act ∧ t.pend = rest ∧ t.sw = s.sw ∧ t.cw = s.cw ∧
      t.regs = s.regs ∧ MemoryKept s t
    (∀ (e u : State) (p : Word), Entered s e q rest → SameButCache e u → ∃ t, exec .ret0 { u with pc := p } = .next t ∧ Resumes t) ∧
    (s.run = .running → s.inputs = [] → s.cacheAgrees → s.pend = q :: rest → Serves s q →
      decode (s.ipool.read (Memory.read s.vt (q.vector.toNat % 16)).toNat) = .ret0 → ∃ t, step s = .next t ∧ Resumes t)

/-- R274, R279, R290 (decisions D19, D21, D22, D24), spec/70_reset_and_hazards.md R304, spec/20_memory.md R62 and the model's batches of
inputs (assumption log 5): a paused machine stacks requests in arrival order, pops the active stack when told to, and does not wake;
run control; a device's notification. That a stop leaves a FAULTED machine FAULTED is the model's reading (assumption log 13). -/
def Obligations.EnvironmentEventsDoWhatTheRulesSay : Prop :=
  ∀ s : State,
    (∀ (qs : List Irq) (rest : List (List EnvEvent)), s.run = .paused → s.inputs = qs.map EnvEvent.irqRequest :: rest →
      step s = .next { s with pend := qs.reverse ++ s.pend, inputs := rest }) ∧
    (∀ rest : List (List EnvEvent), s.run = .paused → s.inputs = [EnvEvent.activePop] :: rest →
      step s = .next { s with act := s.act.drop 1, inputs := rest }) ∧
    (s.run = .paused → s.deliver .start = { s with run := .running }) ∧ (s.run ≠ .paused → s.deliver .start = s) ∧
    (s.run = .running → s.deliver .pause = { s with run := .paused }) ∧ (s.run ≠ .running → s.deliver .pause = s) ∧
    (s.run ≠ .faulted → s.deliver .stop = { s with run := .stopped }) ∧ (s.run = .faulted → s.deliver .stop = s) ∧
    ∀ p v : Byte, s.deliver (.portNotify p v) = { s with inLatch := (s.deliver (.portNotify p v)).inLatch } ∧
      ∀ r : Byte, Memory.read (s.deliver (.portNotify p v)).inLatch r.toNat = if r = p then v else Memory.read s.inLatch r.toNat

/-! ## NOP, HLT, SYS (spec/40_system.md) -/

/-- R100, R110 and spec/44_move_imm.md R173: NOP, SYS 7 and MOV 2 and 3 change nothing, whatever the mode and whatever fills their
unused bits; and every word with their fixed bits is such an instruction, which rests on the encodings of spec/30_encoding.md R72, R80
and R82 (decisions D1, D3, D4; assumption log 14). -/
def Obligations.NoOperationsChangeNothing : Prop :=
  ∀ (s : State) (v : Byte) (x y : RegIx),
    exec .nop s = .next s ∧ exec (.sys7 v) s = .next s ∧ exec (.mov2 x y) s = .next s ∧ exec (.mov3 x y) s = .next s ∧
    ∀ w : Word, w &&& 0xF800 = 0x0000 ∨ w &&& 0xFF00 = 0x1700 ∨ w &&& 0xF810 = 0x8810 → exec (decode w) s = .next s

/-- R101, R102 (decisions D2, D24): subtype 0 stops the machine, the others pause it, and the next step of the halted machine, with
nothing delivered, does nothing. Executing an instruction does not look at `RUN`: a tick executes in a RUNNING machine only, and direct
execution keeps STOPPED and FAULTED, as `StepOutcomesFollowTheRunState` says. -/
def Obligations.HaltStopsOrPauses : Prop :=
  ∀ s : State,
    exec .hlt0 s = .next { s with run := .stopped } ∧ exec .hlt1 s = .next { s with run := .paused } ∧
    exec .hlt2 s = .next { s with run := .paused } ∧ exec .hlt3 s = .next { s with run := .paused } ∧
    (s.inputs = [] → step { s with run := .stopped } = .next { s with run := .stopped } ∧
      step { s with run := .paused } = .next { s with run := .paused }) ∧
    MemoryKept s { s with run := .stopped } ∧ MemoryKept s { s with run := .paused }

/-- R103, R104 (decision D17): SYS 0 latches the loop bounds, the start read from register 0 and so cleared there, SYS 1 the count. -/
def Obligations.LoopLatchesAreWritten : Prop :=
  ∀ (s : State) (v : Byte),
    (∃ t, exec (.sys0 v) s = .next t ∧ t = { s with regs := t.regs, loopStart := s.reg 0, loopEnd := v } ∧
      RegistersAre s t True 0 0 ∧ MemoryKept s t) ∧
    (∃ t, exec (.sys1 v) s = .next t ∧ t = { s with loopCount := v } ∧ MemoryKept s t)

/-- R105, R106, R108, R109 (SYS 5: decision D18) in kernel mode: SYS 2, 3 and 6 replace the control word, the status word and the mask;
SYS 5 writes the vector entry that register 0 indexes, mod 16, and clears register 0. -/
def Obligations.SysWritesItsTargetInKernelMode : Prop :=
  ∀ (s : State) (v : Byte), s.kernel = true →
    exec (.sys2 v) s = .next { s with cw := v } ∧ exec (.sys3 v) s = .next { s with sw := v } ∧
    exec (.sys6 v) s = .next { s with mask := v } ∧ MemoryKept s { s with cw := v } ∧ MemoryKept s { s with sw := v } ∧
    MemoryKept s { s with mask := v } ∧
    ∃ t, exec (.sys5 v) s = .next t ∧ t = { s with regs := t.regs, vt := t.vt } ∧ RegistersAre s t True 0 0 ∧
      (∀ n, n < 16 → Memory.read t.vt n = if n = (s.reg 0).toNat % 16 then v else Memory.read s.vt n) ∧ MemoryKept s t

/-- spec/60_exceptions.md R280, R281 (decision D13): in user mode each of the nine gated operations sets the error flag and has no other
effect: no target, no register, not even the clearing of register 0. -/
def Obligations.GatedOperationsAreRefusedInUserMode : Prop :=
  ∀ (i : Instr) (s : State), Gated i → s.kernel = false →
    ∃ t, exec i s = .next t ∧ t = { s with sw := t.sw } ∧ ErrorSet s.sw t.sw ∧ MemoryKept s t

/-- spec/20_memory.md R44: `SetPage`, which is what SYS 4 does (spec/40_system.md R107). A dirty bank is written back at the old page before the new page
is loaded; a page already resident changes nothing; the flags and all else stay; and where a clean bank agrees with the pool, no byte
of data memory changes and the bank agrees again (R45, the spec's derivation). -/
def Obligations.SetPageWritesBackADirtyBank : Prop :=
  ∀ (s : State) (p : Byte), exec (.sys4 p) s = .next (s.setPage p) ∧
    (p = s.page → s.setPage p = s) ∧
    (p ≠ s.page →
      s.setPage p = { s with pool := (s.setPage p).pool, bank := (s.setPage p).bank, page := p, dirty := false } ∧
      (∀ a : Word, (s.setPage p).poolRead a =
        if s.dirty = true ∧ a.toNat / 256 = s.page.toNat then s.bankRead (BitVec.ofNat 8 (a.toNat % 256)) else s.poolRead a) ∧
      ∀ o : Byte, (s.setPage p).bankRead o = s.poolRead (p ++ o)) ∧
    (s.bankAgrees → MemoryKept s (s.setPage p) ∧ (s.setPage p).bankAgrees)

/-! ## LDC, JMP, BRC, CAL, RET (spec/41_control.md) -/

/-- R123 with R120, R121 (decisions D5, D8): LDC writes its value directly if the condition holds, register 0 included, and otherwise
nothing changes. -/
def Obligations.ConditionalLoadFollowsTheConditionTable : Prop :=
  ∀ (s : State) (x : RegIx) (c : BitVec 3) (v : BitVec 5),
    (Holds (s.cw.getLsbD 2) c s.sw →
      ∃ t, exec (.ldc x c v) s = .next t ∧ (t.reg x).toNat = v.toNat ∧ (∀ j, j ≠ x → t.reg j = s.reg j) ∧ OnlyRegisters s t) ∧
    (¬ Holds (s.cw.getLsbD 2) c s.sw → exec (.ldc x c v) s = .next s)

/-- R124 to R126 with R122 (decisions D10, D11): where JMP, BRC and CAL go, and the frame CAL pushes. The condition of BRC is that of
R120 and the tables of R121 (decision D8; assumption log 14). -/
def Obligations.JumpsBranchesAndCallsReachTheirTargets : Prop :=
  ∀ (s : State) (a : BitVec 11) (c : BitVec 3) (o : BitVec 6),
    (∃ t, exec (.jmp a) s = .next t ∧ t = { s with pc := t.pc } ∧ t.pc.toNat = jumpTarget s a ∧ MemoryKept s t) ∧
    (Holds (s.cw.getLsbD 2) c s.sw → ∃ t, exec (.brc c o) s = .next t ∧ t = { s with pc := t.pc } ∧
      t.pc.toNat = (if s.cw.getLsbD 1 = true then o.toNat * 64 else s.pc.toNat / 64 * 64 + o.toNat) ∧ MemoryKept s t) ∧
    (¬ Holds (s.cw.getLsbD 2) c s.sw → exec (.brc c o) s = .next s) ∧
    (∃ t, exec (.cal a) s = .next t ∧ t = { s with pc := t.pc, cs := t.cs, csp := s.csp + 1 } ∧ t.pc.toNat = jumpTarget s a ∧
      t.cs.read s.csp.toNat = s.pc ∧ (∀ k, k ≠ s.csp.toNat → t.cs.read k = s.cs.read k) ∧ MemoryKept s t)

/-- R127, R128 with spec/10_state.md R27, R28 (decision D12): RET 0 jumps to the entry below the pointer, RET 1 to the oldest and
clears the ring; and a return after a call resumes after the call. -/
def Obligations.ReturnsPopOrDrainTheCallStack : Prop :=
  ∀ s : State,
    (∃ t, exec .ret0 s = .next t ∧ t = { s with pc := s.cs.read ((s.csp.toNat + 63) % 64), csp := t.csp } ∧
      t.csp.toNat = (s.csp.toNat + 63) % 64 ∧ MemoryKept s t) ∧
    (∃ t, exec .ret1 s = .next t ∧ t = { s with pc := s.cs.read 0, cs := t.cs, csp := 0 } ∧ (∀ k, t.cs.read k = 0) ∧
      MemoryKept s t) ∧
    ∀ a, ∃ t u, exec (.cal a) s = .next t ∧ exec .ret0 t = .next u ∧ u = { s with cs := u.cs }

/-- spec/10_state.md R26 and R27: the ring of 64 entries. A push writes the entry at the pointer and moves it up, a pop moves it down
and delivers that entry, which keeps its value; both wrap, no flag is set, and 64 pushes bring the pointer back, so that the 65th
overwrites the oldest. -/
def Obligations.CallStackIsARingThatWrapsSilently : Prop :=
  (∀ (s : State) (v : Word),
    s.csPush v = { s with cs := (s.csPush v).cs, csp := (s.csPush v).csp } ∧
    (s.csPush v).csp.toNat = (s.csp.toNat + 1) % 64 ∧
    (∀ k, (s.csPush v).cs.read k = if k = s.csp.toNat then v else s.cs.read k)) ∧
  (∀ s : State, s.csPop = { s with csp := s.csPop.csp } ∧ s.csPop.csp.toNat = (s.csp.toNat + 63) % 64 ∧
    s.csTop = s.cs.read s.csPop.csp.toNat) ∧
  ∀ (s : State) (vs : List Word), vs.length = 64 → s.csp = 0 → ∀ v,
    (vs.foldl State.csPush s).csp = 0 ∧ (∀ k, k < 64 → (vs.foldl State.csPush s).cs.read k = vs.getD k 0) ∧
    ((vs.foldl State.csPush s).csPush v).cs.read 0 = v

/-! ## INP, OUT, LDS, STS (spec/42_port_internal.md) -/

/-- R140, R141 with spec/20_memory.md R60, R61 (decisions D5, D33): OUT writes the output latch; INP from a port without a device reads
that latch, so that it echoes. -/
def Obligations.UnboundPortEchoesItsOutputLatch : Prop :=
  ∀ (s : State) (x : RegIx) (p : Byte),
    (∃ t, exec (.out x p) s = .next t ∧ t = { s with regs := t.regs, outLatch := t.outLatch, deviceCalls := t.deviceCalls } ∧
      (s.deviceAt p = none → t.deviceCalls = s.deviceCalls) ∧ RegistersAre s t (x = 0) 0 0 ∧
      (∀ r : Byte, Memory.read t.outLatch r.toNat = if r = p then s.reg x else Memory.read s.outLatch r.toNat) ∧ MemoryKept s t) ∧
    (s.deviceAt p = none → ∃ t, exec (.inp x p) s = .next t ∧ RegistersAre s t False x (Memory.read s.outLatch p.toNat) ∧
      OnlyRegisters s t) ∧
    ∀ z, z ≠ 0 → s.deviceAt p = none →
      ∃ t u, exec (.out x p) s = .next t ∧ exec (.inp z p) t = .next u ∧ u.reg z = s.reg x

/-- R140 with spec/20_memory.md R60: INP from a bound port runs the device's read handler, even if the value is dropped, and delivers the
input latch. What the handler does is a free value (assumption log 3); the statement holds for every one. -/
def Obligations.BoundPortDeliversItsInputLatch : Prop :=
  ∀ (s : State) (x : RegIx) (p : Byte) (b : Binding), s.deviceAt p = some b →
    ∃ t, exec (.inp x p) s = .next t ∧
      t = { s with regs := t.regs, inLatch := t.inLatch, draws := s.draws + 1,
                   deviceCalls := .read b.device (p.toNat - b.base) :: s.deviceCalls } ∧
      RegistersAre s t False x (Memory.read t.inLatch p.toNat) ∧ MemoryKept s t ∧
      (∀ r : Byte, r ≠ p → Memory.read t.inLatch r.toNat = Memory.read s.inLatch r.toNat) ∧
      (Config.deviceReply s.draws s.deviceCalls b.device (p.toNat - b.base) = none →
        Memory.read t.inLatch p.toNat = Memory.read s.inLatch p.toNat) ∧
      ∀ v, Config.deviceReply s.draws s.deviceCalls b.device (p.toNat - b.base) = some v → Memory.read t.inLatch p.toNat = v

/-- spec/20_memory.md R61 with R59, R60 and R141 (decision D5): OUT to a bound port writes the output latch and calls the device's write
handler with the port's offset and the data, so that what a following INP delivers may depend on it. That the calls are kept in a list
and a reply is a free value applied to it is the model's choice (assumption log 3); the statement holds for every reply. -/
def Obligations.BoundPortHandsTheWriteToItsDevice : Prop :=
  ∀ (s : State) (x : RegIx) (p : Byte) (b : Binding), s.deviceAt p = some b →
    ∃ t, exec (.out x p) s = .next t ∧
      t = { s with regs := t.regs, outLatch := t.outLatch,
                   deviceCalls := .write b.device (p.toNat - b.base) (s.reg x) :: s.deviceCalls } ∧
      RegistersAre s t (x = 0) 0 0 ∧ MemoryKept s t ∧
      (∀ r : Byte, Memory.read t.outLatch r.toNat = if r = p then s.reg x else Memory.read s.outLatch r.toNat) ∧
      ∀ z, z ≠ 0 → ∃ u, exec (.inp z p) t = .next u ∧
        u.reg z = (Config.deviceReply s.draws (.write b.device (p.toNat - b.base) (s.reg x) :: s.deviceCalls) b.device
          (p.toNat - b.base)).getD (Memory.read s.inLatch p.toNat)

/-- R142 (decision D14): LDS delivers the internal register of its index, in either mode. -/
def Obligations.InternalLoadDeliversTheIndexedRegister : Prop :=
  ∀ (s : State) (x : RegIx) (k : BitVec 3),
    ∃ t v, exec (.lds x k) s = .next t ∧ v.toNat = internalValue s k ∧ RegistersAre s t False x v ∧ OnlyRegisters s t

/-- R143 (decision D14): the three stores that are not gated, and the five that are in kernel mode. -/
def Obligations.InternalStoresReachTheirTarget : Prop :=
  ∀ (s : State) (x : RegIx),
    (∃ t, exec (.sts x 0) s = .next t ∧ t = { s with regs := t.regs, ap := s.reg x } ∧ RegistersAre s t (x = 0) 0 0 ∧
      MemoryKept s t) ∧
    (∃ t, exec (.sts x 1) s = .next t ∧ t = { s with regs := t.regs, csp := t.csp } ∧ t.csp.toNat = (s.reg x).toNat % 64 ∧
      RegistersAre s t (x = 0) 0 0 ∧ MemoryKept s t) ∧
    (∃ t, exec (.sts x 4) s = .next t ∧ t = { s with regs := t.regs, loopPtr := s.reg x } ∧ RegistersAre s t (x = 0) 0 0 ∧
      MemoryKept s t) ∧
    (s.kernel = true →
      (∃ t, exec (.sts x 2) s = .next t ∧ t = { s with regs := t.regs, sw := s.reg x } ∧ RegistersAre s t (x = 0) 0 0 ∧
        MemoryKept s t) ∧
      (∃ t, exec (.sts x 3) s = .next t ∧ t = { s with regs := t.regs, cw := s.reg x } ∧ RegistersAre s t (x = 0) 0 0 ∧
        MemoryKept s t) ∧
      ∀ (k : BitVec 3) (n : Nat),
        (k = 5 ∧ n = s.pc.toNat / 64 * 64 + (s.reg x).toNat % 64) ∨ (k = 6 ∧ n = s.pc.toNat / 256 * 256 + (s.reg x).toNat) ∨
          (k = 7 ∧ n = (s.reg x).toNat * 256 + s.pc.toNat % 256) →
        ∃ t, exec (.sts x k) s = .next t ∧ t = { s with regs := t.regs, pc := t.pc } ∧ t.pc.toNat = n ∧
          RegistersAre s t (x = 0) 0 0 ∧ MemoryKept s t)

/-! ## POP, PSH, MLD, MST (spec/43_stack_memory.md) -/

/-- R152 to R155 (decision D15): POP in each mode of an occupied slot. The byte at the slot goes to the register, the status word or
nowhere; modes 0, 2 and 3 drop one byte; the slot's page is left resident; no byte of memory changes. -/
def Obligations.PopDeliversTheAddressedByte : Prop :=
  ∀ (s : State) (x : RegIx) (f : BitVec 3) (a : Word), s.bankAgrees → s.vsp ≤ 65536 → 1 + f.toNat ≤ s.vsp →
    slotAddr (s.vsp - 1 - f.toNat) = a →
    a.toNat = 65535 - (s.vsp - 1 - f.toNat) ∧
    (∃ t, exec (.pop0 x f) s = .next t ∧ StackAccess s t a (s.vsp - 1) ∧ RegistersAre s t False x (s.mem a) ∧ t.sw = s.sw ∧
      DirtyAfterRead s t a ∧ MemoryKept s t) ∧
    (∃ t, exec (.pop1 x f) s = .next t ∧ StackAccess s t a s.vsp ∧ RegistersAre s t False x (s.mem a) ∧ t.sw = s.sw ∧
      DirtyAfterRead s t a ∧ MemoryKept s t) ∧
    (∃ t, exec (.pop2 x f) s = .next t ∧ StackAccess s t a (s.vsp - 1) ∧ t.regs = s.regs ∧ t.sw = s.mem a ∧
      DirtyAfterRead s t a ∧ MemoryKept s t) ∧
    (∃ t, exec (.pop3 x f) s = .next t ∧ StackAccess s t a (s.vsp - 1) ∧ t.regs = s.regs ∧ t.sw = s.sw ∧
      DirtyAfterRead s t a ∧ MemoryKept s t)

/-- R157, R159, R160 (decision D15): PSH in each pushing mode with room. The register, the status word or 0 goes to the slot, one byte
is counted, the slot's page is left resident and dirty; no other byte of memory changes. -/
def Obligations.PushStoresAtTheNextSlot : Prop :=
  ∀ (s : State) (x : RegIx) (f : BitVec 3) (a : Word), s.bankAgrees → s.vsp + f.toNat ≤ 65535 → slotAddr (s.vsp + f.toNat) = a →
    a.toNat = 65535 - (s.vsp + f.toNat) ∧
    (∃ t, exec (.psh0 x f) s = .next t ∧ StackAccess s t a (s.vsp + 1) ∧ RegistersAre s t (x = 0) 0 0 ∧ t.sw = s.sw ∧
      t.dirty = true ∧ MemoryIs s t a (s.reg x)) ∧
    (∃ t, exec (.psh2 x f) s = .next t ∧ StackAccess s t a (s.vsp + 1) ∧ t.regs = s.regs ∧ t.sw = s.sw ∧ t.dirty = true ∧
      MemoryIs s t a s.sw) ∧
    (∃ t, exec (.psh3 x f) s = .next t ∧ StackAccess s t a (s.vsp + 1) ∧ t.regs = s.regs ∧ t.sw = s.sw ∧ t.dirty = true ∧
      MemoryIs s t a 0)

/-- R158 (decision D15): PSH mode 1 overwrites the byte `f` below the top and moves no pointer. -/
def Obligations.PokeOverwritesTheAddressedByte : Prop :=
  ∀ (s : State) (x : RegIx) (f : BitVec 3) (a : Word), s.bankAgrees → s.vsp ≤ 65536 → 1 + f.toNat ≤ s.vsp →
    slotAddr (s.vsp - 1 - f.toNat) = a →
    a.toNat = 65535 - (s.vsp - 1 - f.toNat) ∧
    ∃ t, exec (.psh1 x f) s = .next t ∧ StackAccess s t a s.vsp ∧ RegistersAre s t (x = 0) 0 0 ∧ t.sw = s.sw ∧ t.dirty = true ∧
      MemoryIs s t a (s.reg x)

/-- R151 (decision D15): a stack operation whose slot does not exist sets the error flag and changes nothing else, but that PSH modes 0
and 1 have read their register. -/
def Obligations.StackBoundsSetTheErrorFlag : Prop :=
  ∀ (s : State) (x : RegIx) (f : BitVec 3),
    (s.vsp < 1 + f.toNat →
      Aborts (.pop0 x f) s False ∧ Aborts (.pop1 x f) s False ∧ Aborts (.pop2 x f) s False ∧ Aborts (.pop3 x f) s False ∧
      Aborts (.psh1 x f) s (x = 0)) ∧
    (65535 < s.vsp + f.toNat →
      Aborts (.psh0 x f) s (x = 0) ∧ Aborts (.psh2 x f) s False ∧ Aborts (.psh3 x f) s False)

/-- R157's property, on the shared push: from an empty stack, up to 65536 bytes land at 65535 downward, the stack counts them, no flag
and no byte below them changes; and once 65536 lie there, the next push sets the error flag and changes no byte. -/
def Obligations.StackHoldsSixtyFourKibibytes : Prop :=
  ∀ (s : State) (vs : List Byte), s.bankAgrees → s.vsp = 0 → vs.length ≤ 65536 →
    let t := vs.foldl (fun s v => s.push 0 v) s
    t.vsp = vs.length ∧ t.sw = s.sw ∧
    (∀ (a : Word), 65535 - a.toNat < vs.length → t.mem a = vs.getD (65535 - a.toNat) 0) ∧
    (∀ (a : Word), vs.length ≤ 65535 - a.toNat → t.mem a = s.mem a) ∧
    (vs.length = 65536 → ∀ v, ErrorSet t.sw (t.push 0 v).sw ∧ (t.push 0 v).vsp = 65536 ∧ MemoryKept t (t.push 0 v))

/-- R163 (decision D16): MLD delivers the byte of the resident page at `(AP + offset) mod 256`. -/
def Obligations.MemoryLoadReadsTheResidentPage : Prop :=
  ∀ (s : State) (x : RegIx) (o : BitVec 6) (a : Word), s.page ++ s.bankOffset o = a →
    a.toNat = 256 * s.page.toNat + (s.ap.toNat + o.toNat) % 256 ∧
    ∃ t, exec (.mld x o) s = .next t ∧ RegistersAre s t False x (s.mem a) ∧ OnlyRegisters s t

/-- R164 (decision D16): MST stores there and marks the bank dirty; the pool is not touched, and no other byte changes. -/
def Obligations.MemoryStoreWritesTheResidentPage : Prop :=
  ∀ (s : State) (x : RegIx) (o : BitVec 6) (a : Word), s.page ++ s.bankOffset o = a →
    ∃ t, exec (.mst x o) s = .next t ∧ t = { s with regs := t.regs, bank := t.bank, dirty := true } ∧
      RegistersAre s t (x = 0) 0 0 ∧ MemoryIs s t a (s.reg x)

/-- R164's property: a byte stored in a page is there again after a switch to another page and back. -/
def Obligations.StoreSurvivesAPageRoundTrip : Prop :=
  ∀ (s : State) (x z : RegIx) (o : BitVec 6) (p : Byte), z ≠ 0 →
    ∃ t u v w, exec (.mst x o) s = .next t ∧ exec (.sys4 p) t = .next u ∧ exec (.sys4 s.page) u = .next v ∧
      exec (.mld z o) v = .next w ∧ w.reg z = s.reg x

/-! ## LDI, MOV and the immediate ALU operations (spec/44_move_imm.md) -/

/-- R170 to R172 (MOV 0: decision D31): LDI is a direct write, MOV 0 moves and zeroes the source last, MOV 1 copies. No flag changes. -/
def Obligations.LoadsAndMovesWriteTheirDestination : Prop :=
  ∀ (s : State) (x y : RegIx) (v : Byte),
    (∃ t, exec (.ldi x v) s = .next t ∧ t.reg x = v ∧ (∀ j, j ≠ x → t.reg j = s.reg j) ∧ OnlyRegisters s t) ∧
    (∃ t, exec (.mov0 x y) s = .next t ∧ t.reg y = 0 ∧ (x ≠ 0 → x ≠ y → t.reg x = s.reg y) ∧
      (∀ j, j ≠ y → (j = x → x = 0) → t.reg j = s.reg j) ∧ OnlyRegisters s t) ∧
    (∃ t, exec (.mov1 x y) s = .next t ∧ RegistersAre s t (y = 0) x (s.reg y) ∧ OnlyRegisters s t)

/-- R174 to R180 (decisions D5, D26): ADI, ANI, ORI, XRI write their register; CPI and TSI set the flags of the difference and of the
conjunction and write none. A read of register 0 clears it in all six. -/
def Obligations.ImmediateOperationsSetResultAndFlags : Prop :=
  ∀ (s : State) (x : RegIx) (v : Byte),
    Completes (.adi x v) s (x = 0) x (Sum s.sw (s.reg x) v false) ∧
    Completes (.ani x v) s (x = 0) x (Bitwise (fun p q => p && q) s.sw (s.reg x) v) ∧
    Completes (.ori x v) s (x = 0) x (Bitwise (fun p q => p || q) s.sw (s.reg x) v) ∧
    Completes (.xri x v) s (x = 0) x (Bitwise (fun p q => p ^^ q) s.sw (s.reg x) v) ∧
    Completes (.cpi x v) s (x = 0) 0 (Difference s.sw (s.reg x) v false) ∧
    Completes (.tsi x v) s (x = 0) 0 (Bitwise (fun p q => p && q) s.sw (s.reg x) v)

/-! ## The three-register ALU operations (spec/45_alu.md) -/

/-- R199 to R201, R204, R205, R208 with R192, R193 (decisions D5, D26): plain and chained addition and subtraction. -/
def Obligations.AdditionAndSubtraction : Prop :=
  ∀ (s : State) (x y z : RegIx),
    Completes (.add x y z) s (y = 0 ∨ z = 0) x (Sum s.sw (s.reg y) (second s y z) false) ∧
    Completes (.adc x y z) s (y = 0 ∨ z = 0) x (Sum s.sw (s.reg y) (second s y z) (swC s.sw)) ∧
    Completes (.sub x y z) s (y = 0 ∨ z = 0) x (Difference s.sw (s.reg y) (second s y z) false) ∧
    Completes (.sbb x y z) s (y = 0 ∨ z = 0) x (Difference s.sw (s.reg y) (second s y z) (swC s.sw))

/-- R202, R203, R206, R207 with R194, R195 (decisions D5, D27): no carry or borrow crosses between the lanes. -/
def Obligations.NibbleVectorArithmetic : Prop :=
  ∀ (s : State) (x y z : RegIx),
    Completes (.vad x y z) s (y = 0 ∨ z = 0) x (LaneSum s.sw (s.reg y) (second s y z) false false) ∧
    Completes (.vac x y z) s (y = 0 ∨ z = 0) x (LaneSum s.sw (s.reg y) (second s y z) (swA s.sw) (swC s.sw)) ∧
    Completes (.vsb x y z) s (y = 0 ∨ z = 0) x (LaneDifference s.sw (s.reg y) (second s y z) false false) ∧
    Completes (.vsc x y z) s (y = 0 ∨ z = 0) x (LaneDifference s.sw (s.reg y) (second s y z) (swA s.sw) (swC s.sw))

/-- R209 to R217 with R197, R199 (decisions D5, D31): the eight boolean operations bit by bit. -/
def Obligations.BooleanOperationsAreBitwise : Prop :=
  ∀ (s : State) (x y z : RegIx),
    let done (i : Instr) (op : Bool → Bool → Bool) : Prop :=
      Completes i s (y = 0 ∨ z = 0) x (Bitwise op s.sw (s.reg y) (second s y z))
    done (.or x y z) (fun p q => p || q) ∧ done (.and x y z) (fun p q => p && q) ∧ done (.xor x y z) (fun p q => p ^^ q) ∧
    done (.imp x y z) (fun p q => !p || q) ∧ done (.nor x y z) (fun p q => !(p || q)) ∧
    done (.nand x y z) (fun p q => !(p && q)) ∧ done (.xnor x y z) (fun p q => p == q) ∧
    done (.nimp x y z) (fun p q => p && !q)

/-- R193's property: subtracting what was added gives the first operand back, with the same carry and aux-carry. -/
def Obligations.SubtractionUndoesAddition : Prop :=
  ∀ sw a b : Byte, (sub8 false (add8 false sw a b).sw (add8 false sw a b).r b).r = a ∧
    swC (sub8 false (add8 false sw a b).sw (add8 false sw a b).r b).sw = swC (add8 false sw a b).sw ∧
    swA (sub8 false (add8 false sw a b).sw (add8 false sw a b).r b).sw = swA (add8 false sw a b).sw

/-! ## Shifts, multiply, divide, bit counting (spec/46_shift_math.md) -/

/-- R236 to R243, R245 with R231 to R235 (decisions D5, D28): the shifts by a register that holds at most 7, and by an immediate. -/
def Obligations.ShiftsByRegisterOrImmediate : Prop :=
  (∀ (s : State) (x y z : RegIx), (second s y z).toNat ≤ 7 →
    Completes (.lsl x y z) s (y = 0 ∨ z = 0) x (ShiftedLeft s.sw (s.reg y) (second s y z).toNat) ∧
    Completes (.lsr x y z) s (y = 0 ∨ z = 0) x (ShiftedRight s.sw (s.reg y) (second s y z).toNat) ∧
    Completes (.rol x y z) s (y = 0 ∨ z = 0) x (Rotated s.sw (s.reg y) (second s y z).toNat) ∧
    Completes (.asr x y z) s (y = 0 ∨ z = 0) x (ShiftedArithmetic s.sw (s.reg y) (second s y z).toNat)) ∧
  ∀ (s : State) (x y : RegIx) (n : BitVec 3),
    Completes (.lsli x y n) s (y = 0) x (ShiftedLeft s.sw (s.reg y) n.toNat) ∧
    Completes (.lsri x y n) s (y = 0) x (ShiftedRight s.sw (s.reg y) n.toNat) ∧
    Completes (.roli x y n) s (y = 0) x (Rotated s.sw (s.reg y) n.toNat) ∧
    Completes (.asri x y n) s (y = 0) x (ShiftedArithmetic s.sw (s.reg y) n.toNat)

/-- R231, R232 and R233: a shift function by 0 returns its operand and the status word with no bit changed, and the shift instructions
write that operand to their destination; the result and carry of the logical shifts by 1 to 7, and the rules' examples. -/
def Obligations.ShiftUnitOnZeroAndLogicalShifts : Prop :=
  (∀ sw a : Byte, lsl8 sw a 0 = ⟨a, sw⟩ ∧ lsr8 sw a 0 = ⟨a, sw⟩ ∧ rol8 sw a 0 = ⟨a, sw⟩ ∧ asr8 sw a 0 = ⟨a, sw⟩) ∧
  (∀ (i : Instr) (s : State) (x y z : RegIx),
    (second s y z = 0 ∧ (i = .lsl x y z ∨ i = .lsr x y z ∨ i = .rol x y z ∨ i = .asr x y z)) ∨
      (z = 0 ∧ (i = .lsli x y 0 ∨ i = .lsri x y 0 ∨ i = .roli x y 0 ∨ i = .asri x y 0)) →
    ∃ t, exec i s = .next t ∧ (x ≠ 0 → t.reg x = s.reg y) ∧ t.sw = s.sw) ∧
  (∀ (sw a : Byte) (n : Nat), 1 ≤ n → n ≤ 7 →
    (lsl8 sw a n).r.toNat = a.toNat * 2 ^ n % 256 ∧ swC (lsl8 sw a n).sw = a.getLsbD (8 - n) ∧
    (lsr8 sw a n).r.toNat = a.toNat / 2 ^ n ∧ swC (lsr8 sw a n).sw = a.getLsbD (n - 1)) ∧
  lsl8 0 0x81 1 = ⟨0x02, 0x01⟩ ∧ lsl8 0 0xFF 7 = ⟨0x80, 0x81⟩ ∧ lsr8 0 0x81 1 = ⟨0x40, 0x01⟩ ∧ lsr8 0 0x80 7 = ⟨0x01, 0x00⟩

/-- R244 (decision D28) with spec/60_exceptions.md R284: a shift by more than 7 leaves the machine FAULTED, with no register or flag
written but the clearing of a register 0 that was read, and the next step, with nothing delivered, is the fault. -/
def Obligations.ShiftByMoreThanSevenIsADomainFault : Prop :=
  ∀ (i : Instr) (s : State) (x y z : RegIx), i = .lsl x y z ∨ i = .lsr x y z ∨ i = .rol x y z ∨ i = .asr x y z →
    7 < (second s y z).toNat →
    ∃ t, exec i s = .next t ∧ t = { s with regs := t.regs, run := .faulted } ∧ RegistersAre s t (y = 0 ∨ z = 0) 0 0 ∧
      MemoryKept s t ∧ (s.inputs = [] → step t = .fault .domainFault)

/-- R246, R250, R252 to R255 (decisions D5, D29): products by an immediate, and quotient and remainder by an immediate other than 0. -/
def Obligations.MultiplyAndDivideByImmediate : Prop :=
  ∀ (s : State) (x y : RegIx) (n : BitVec 3),
    Completes (.muli x y n) s (y = 0) x (fun v new => v.toNat = (s.reg y).toNat * n.toNat % 256 ∧ Plain s.sw v new) ∧
    Completes (.muhi x y n) s (y = 0) x (fun v new => v.toNat = (s.reg y).toNat * n.toNat / 256 ∧ Plain s.sw v new) ∧
    (n ≠ 0 →
      Completes (.divi x y n) s (y = 0) x (fun v new => v.toNat = (s.reg y).toNat / n.toNat ∧ Plain s.sw v new) ∧
      Completes (.modi x y n) s (y = 0) x (fun v new => v.toNat = (s.reg y).toNat % n.toNat ∧ Plain s.sw v new))

/-- R251 (decision D30): DIVI and MODI by 0 set the error flag and keep the reserved bit; the result byte and the six flags are free
values (assumption log 2), of which nothing is said. -/
def Obligations.DivisionByZeroSetsTheErrorFlag : Prop :=
  ∀ (i : Instr) (s : State) (x y : RegIx), i = .divi x y 0 ∨ i = .modi x y 0 →
    ∃ t v, exec i s = .next t ∧ t = { s with regs := t.regs, sw := t.sw, draws := s.draws + 1 } ∧ RegistersAre s t (y = 0) x v ∧
      swE t.sw = true ∧ swR3 t.sw = swR3 s.sw ∧ MemoryKept s t

/-- R247, R260 to R263 with R250, R256 to R259 (decisions D5, D29): square root, leading zeros, trailing zeros and bit count. -/
def Obligations.RootAndBitCounts : Prop :=
  ∀ (s : State) (x y : RegIx),
    Completes (.sqrt x y) s (y = 0) x (fun v new =>
      v.toNat ^ 2 ≤ (s.reg y).toNat ∧ (s.reg y).toNat < (v.toNat + 1) ^ 2 ∧ Plain s.sw v new) ∧
    Completes (.clz x y) s (y = 0) x (fun v new =>
      ((s.reg y).toNat = 0 → v.toNat = 8) ∧
      ((s.reg y).toNat ≠ 0 → v.toNat ≤ 7 ∧ 2 ^ (7 - v.toNat) ≤ (s.reg y).toNat ∧ (s.reg y).toNat < 2 ^ (8 - v.toNat)) ∧
      Plain s.sw v new) ∧
    Completes (.ctz x y) s (y = 0) x (fun v new =>
      ((s.reg y).toNat = 0 → v.toNat = 8) ∧
      ((s.reg y).toNat ≠ 0 → 2 ^ v.toNat ∣ (s.reg y).toNat ∧ ¬ 2 ^ (v.toNat + 1) ∣ (s.reg y).toNat) ∧ Plain s.sw v new) ∧
    Completes (.popc x y) s (y = 0) x (fun v new =>
      v.toNat = ((Finset.range 8).filter fun n => (s.reg y).toNat.testBit n = true).card ∧ Plain s.sw v new)

/-! ## The whole status word and the views of `pc` (spec/10_state.md) -/

/-- R18: all eight bits of the status word are read by LDS 2 and PSH 2 and written by SYS 3 and STS 2, kernel-gated, and by POP 2 in
either mode; what was written is read back; a condition is a test of the status word. -/
def Obligations.WholeStatusWordIsReadBackAsWritten : Prop :=
  ∀ (s : State) (x z : RegIx) (v : Byte), z ≠ 0 →
    (s.kernel = true → ∃ t u, exec (.sys3 v) s = .next t ∧ t.sw = v ∧ exec (.lds z 2) t = .next u ∧ u.reg z = v) ∧
    (s.kernel = true → ∃ t u, exec (.sts x 2) s = .next t ∧ t.sw = s.reg x ∧ exec (.lds z 2) t = .next u ∧ u.reg z = s.reg x) ∧
    (s.kernel = false → ∀ i, i = .sys3 v ∨ i = .sts x 2 → ∃ t, exec i s = .next t ∧ ErrorSet s.sw t.sw) ∧
    (1 ≤ s.vsp → ∃ t, exec (.pop2 x 0) s = .next t ∧ t.sw = s.mem (slotAddr (s.vsp - 1))) ∧
    (s.bankAgrees → s.vsp ≤ 65535 →
      ∃ t u w, exec (.psh2 x 0) s = .next t ∧ exec (.pop0 z 0) t = .next u ∧ u.reg z = s.sw ∧
        exec (.pop2 x 0) t = .next w ∧ w.sw = s.sw ∧ w.vsp = s.vsp) ∧
    ∀ c, s.cond c = condTable s.altTable c s.sw
end

