-- ==== Sys2Proof/Laws/Memory.lean ====
section
/-! SUPPORT. What the memory operations do to a read, and that each keeps the canonical form. The read laws hold of every list, in
canonical form or not, so later proofs need no side condition. -/

namespace Sys2Proof.Laws

open Sys2Proof.Machine

variable {w : Nat}

@[simp] theorem read_nil (a : Nat) : Memory.read ([] : Memory w) a = 0 := rfl

theorem read_cons (k : Nat) (v : BitVec w) (m : Memory w) (a : Nat) :
    Memory.read ((k, v) :: m) a = if k = a then v else Memory.read m a := rfl

/-- A filter on addresses keeps the values at the addresses it keeps, and the others read as blank. -/
theorem read_filter (p : Nat → Bool) (m : Memory w) (a : Nat) :
    Memory.read (m.filter fun c => p c.1) a = if p a then Memory.read m a else 0 := by
  induction m with
  | nil => simp
  | cons c m ih =>
    obtain ⟨k, v⟩ := c
    by_cases hk : p k
    · simp only [List.filter_cons, hk, if_true, read_cons, ih]
      by_cases e : k = a
      · simp [e ▸ hk, e]
      · simp [e]
    · simp only [List.filter_cons, hk, read_cons, ih, Bool.false_eq_true, if_false]
      by_cases e : k = a
      · simp [← e, hk]
      · simp [e]

/-- An append reads as its first part where that part lists the address. -/
theorem read_append (m n : Memory w) (a : Nat) :
    Memory.read (m ++ n) a = if a ∈ m.map Prod.fst then Memory.read m a else Memory.read n a := by
  induction m with
  | nil => simp
  | cons c m ih =>
    obtain ⟨k, v⟩ := c
    simp only [List.cons_append, read_cons, ih, List.map_cons, List.mem_cons]
    by_cases e : k = a
    · simp [e]
    · simp [e, Ne.symm e]

theorem read_of_not_listed (m : Memory w) (a : Nat) (h : a ∉ m.map Prod.fst) : Memory.read m a = 0 := by
  induction m with
  | nil => rfl
  | cons c m ih =>
    obtain ⟨k, v⟩ := c
    simp only [List.map_cons, List.mem_cons, not_or] at h
    rw [read_cons, if_neg (Ne.symm h.1), ih h.2]

/-- An append whose parts lie on two sides of an address reads as the part on that address's side. -/
theorem read_append_of_not_left (m n : Memory w) (a : Nat) (h : a ∉ m.map Prod.fst) :
    Memory.read (m ++ n) a = Memory.read n a := by
  rw [read_append, if_neg h]

theorem read_append_of_not_right (m n : Memory w) (a : Nat) (h : a ∉ n.map Prod.fst) :
    Memory.read (m ++ n) a = Memory.read m a := by
  rw [read_append]
  split
  · rfl
  · rw [read_of_not_listed n a h, read_of_not_listed m a ‹_›]

@[simp] theorem read_below (m : Memory w) (base a : Nat) :
    Memory.read (m.below base) a = if a < base then Memory.read m a else 0 := by
  refine (read_filter (fun k => decide (k < base)) m a).trans ?_
  simp only [decide_eq_true_eq]

@[simp] theorem read_upFrom (m : Memory w) (base a : Nat) :
    Memory.read (m.upFrom base) a = if base ≤ a then Memory.read m a else 0 := by
  refine (read_filter (fun k => decide (base ≤ k)) m a).trans ?_
  simp only [decide_eq_true_eq]

theorem not_listed_below (m : Memory w) (base a : Nat) (h : base ≤ a) : a ∉ (m.below base).map Prod.fst := by
  intro hm
  obtain ⟨c, hc, rfl⟩ := List.mem_map.1 hm
  have := List.of_mem_filter hc
  simp at this
  omega

theorem not_listed_upFrom (m : Memory w) (base a : Nat) (h : a < base) : a ∉ (m.upFrom base).map Prod.fst := by
  intro hm
  obtain ⟨c, hc, rfl⟩ := List.mem_map.1 hm
  have := List.of_mem_filter hc
  simp at this
  omega

theorem read_shiftUp (m : Memory w) (base a : Nat) :
    Memory.read (m.shiftUp base) a = if base ≤ a then Memory.read m (a - base) else 0 := by
  induction m with
  | nil => simp [Memory.shiftUp]
  | cons c m ih =>
    obtain ⟨k, v⟩ := c
    have : Memory.shiftUp ((k, v) :: m) base = (base + k, v) :: Memory.shiftUp m base := rfl
    rw [this, read_cons, read_cons, ih]
    by_cases e : base + k = a
    · subst e; simp
    · by_cases g : base ≤ a
      · have : k ≠ a - base := by omega
        simp [e, g, this]
      · simp [e, g]

theorem not_listed_shiftUp (m : Memory w) (base a : Nat) (h : a < base) : a ∉ (m.shiftUp base).map Prod.fst := by
  intro hm
  simp only [Memory.shiftUp, List.map_map, List.mem_map, Function.comp_apply] at hm
  obtain ⟨c, -, hc⟩ := hm
  omega

theorem not_listed_page (m : Memory w) (base size a : Nat) (h : base + size ≤ a) :
    a ∉ ((m.below size).shiftUp base).map Prod.fst := by
  intro hm
  simp only [Memory.shiftUp, List.map_map, List.mem_map, Function.comp_apply] at hm
  obtain ⟨c, hc, e⟩ := hm
  have := List.of_mem_filter hc
  simp at this
  omega

/-- A pool with a page put back reads as the page inside it and as the pool outside. -/
theorem read_splice (m : Memory w) (base size : Nat) (page : Memory w) (a : Nat) :
    Memory.read (m.splice base size page) a =
      if base ≤ a ∧ a < base + size then Memory.read page (a - base) else Memory.read m a := by
  unfold Memory.splice
  by_cases h1 : a < base
  · rw [List.append_assoc, read_append_of_not_right _ _ _ (by
      rw [List.map_append, List.mem_append, not_or]
      exact ⟨not_listed_shiftUp _ _ _ h1, not_listed_upFrom _ _ _ (by omega)⟩)]
    simp [h1, Nat.not_le.2 h1]
  · have h1' : base ≤ a := Nat.le_of_not_lt h1
    rw [List.append_assoc, read_append_of_not_left _ _ _ (not_listed_below _ _ _ h1')]
    by_cases h2 : a < base + size
    · rw [read_append_of_not_right _ _ _ (not_listed_upFrom _ _ _ h2), read_shiftUp]
      have : a - base < size := by omega
      simp [h1', h2, this]
    · rw [read_append_of_not_left _ _ _ (not_listed_page _ _ _ _ (by omega))]
      simp [h2, Nat.le_of_not_lt h2]

/-- A page taken out of a pool reads as the pool does, at the address moved down. -/
theorem read_window (m : Memory w) (base size o : Nat) :
    Memory.read (m.window base size) o = if o < size then Memory.read m (base + o) else 0 := by
  have key : ∀ l : Memory w, (∀ c ∈ l, base ≤ c.1) →
      Memory.read (l.map fun c => (c.1 - base, c.2)) o = Memory.read l (base + o) := by
    intro l hl
    induction l with
    | nil => rfl
    | cons c l ih =>
      obtain ⟨k, v⟩ := c
      have hk := hl (k, v) (by simp)
      rw [List.map_cons, read_cons, read_cons, ih fun c hc => hl c (by simp [hc])]
      have : (k - base = o) ↔ (k = base + o) := by simp only at hk; omega
      simp [this]
  unfold Memory.window
  rw [key _ fun c hc => by
    have := List.of_mem_filter (List.mem_of_mem_filter hc)
    simpa using this]
  rw [read_below, read_upFrom]
  simp

/-- After a write: the value at the address written, every other address as before. -/
theorem read_write (m : Memory w) (a : Nat) (v : BitVec w) (b : Nat) :
    Memory.read (m.write a v) b = if b = a then v else Memory.read m b := by
  unfold Memory.write
  have hmid : ∀ c, c ≠ a → c ∉ (if v = Memory.blank then ([] : Memory w) else [(a, v)]).map Prod.fst := by
    intro c hc; split <;> simp [hc]
  rcases Nat.lt_trichotomy b a with h | h | h
  · rw [List.append_assoc, read_append_of_not_right _ _ _ (by
      rw [List.map_append, List.mem_append, not_or]
      exact ⟨hmid b (by omega), not_listed_upFrom _ _ _ (by omega)⟩)]
    have : b ≠ a := by omega
    simp [h, this]
  · subst h
    rw [List.append_assoc, read_append_of_not_left _ _ _ (not_listed_below _ _ _ (le_refl _)),
      read_append_of_not_right _ _ _ (not_listed_upFrom _ _ _ (by omega))]
    split
    · simp [*, Memory.blank]
    · simp [read_cons]
  · rw [List.append_assoc, read_append_of_not_left _ _ _ (not_listed_below _ _ _ (by omega)),
      read_append_of_not_left _ _ _ (hmid b (by omega))]
    have : b ≠ a := by omega
    have h2 : a + 1 ≤ b := h
    simp [this, h2]

@[simp] theorem read_write_same (m : Memory w) (a : Nat) (v : BitVec w) : Memory.read (m.write a v) a = v := by
  simp [read_write]

theorem read_write_other (m : Memory w) (a b : Nat) (v : BitVec w) (h : b ≠ a) :
    Memory.read (m.write a v) b = Memory.read m b := by
  simp [read_write, h]

/-! ## The canonical form -/

theorem sorted_cons (k : Nat) (v : BitVec w) (m : Memory w) :
    Memory.sorted ((k, v) :: m) = true ↔ v ≠ 0 ∧ (∀ c ∈ m, k < c.1) ∧ Memory.sorted m = true := by
  simp [Memory.sorted, Memory.blank, and_assoc]

theorem sorted_filter (p : Nat × BitVec w → Bool) (m : Memory w) (h : Memory.sorted m = true) :
    Memory.sorted (m.filter p) = true := by
  induction m with
  | nil => rfl
  | cons c m ih =>
    obtain ⟨k, v⟩ := c
    obtain ⟨hv, hk, hm⟩ := (sorted_cons k v m).1 h
    by_cases hp : p (k, v)
    · rw [List.filter_cons_of_pos hp]
      exact (sorted_cons _ _ _).2 ⟨hv, fun c hc => hk c (List.mem_of_mem_filter hc), ih hm⟩
    · rw [List.filter_cons_of_neg hp]
      exact ih hm

theorem sorted_append (m n : Memory w) (hm : Memory.sorted m = true) (hn : Memory.sorted n = true)
    (h : ∀ c ∈ m, ∀ d ∈ n, c.1 < d.1) : Memory.sorted (m ++ n) = true := by
  induction m with
  | nil => simpa
  | cons c m ih =>
    obtain ⟨k, v⟩ := c
    obtain ⟨hv, hk, hm'⟩ := (sorted_cons k v m).1 hm
    refine (sorted_cons _ _ _).2 ⟨hv, ?_, ih hm' fun c hc d hd => h c (by simp [hc]) d hd⟩
    intro d hd
    rcases List.mem_append.1 hd with hd | hd
    · exact hk d hd
    · exact h (k, v) (by simp) d hd

theorem sorted_map (f : Nat → Nat) (m : Memory w) (hm : Memory.sorted m = true)
    (h : ∀ c ∈ m, ∀ d ∈ m, c.1 < d.1 → f c.1 < f d.1) :
    Memory.sorted (m.map fun c => (f c.1, c.2)) = true := by
  induction m with
  | nil => rfl
  | cons c m ih =>
    obtain ⟨k, v⟩ := c
    obtain ⟨hv, hk, hm'⟩ := (sorted_cons k v m).1 hm
    refine (sorted_cons _ _ _).2 ⟨hv, ?_, ih hm' fun c hc d hd => h c (by simp [hc]) d (by simp [hd])⟩
    intro d hd
    obtain ⟨e, he, rfl⟩ := List.mem_map.1 hd
    exact h (k, v) (by simp) e (by simp [he]) (hk e he)

theorem wf_iff (size : Nat) (m : Memory w) :
    Memory.wf size m = true ↔ Memory.sorted m = true ∧ ∀ c ∈ m, c.1 < size := by
  simp [Memory.wf]

@[simp] theorem wf_nil (size : Nat) : Memory.wf size ([] : Memory w) = true := rfl

theorem wf_write (size : Nat) (m : Memory w) (a : Nat) (v : BitVec w) (h : Memory.wf size m = true) (ha : a < size) :
    Memory.wf size (m.write a v) = true := by
  obtain ⟨hs, hb⟩ := (wf_iff _ _).1 h
  refine (wf_iff _ _).2 ⟨?_, ?_⟩
  · unfold Memory.write
    refine sorted_append _ _ (sorted_append _ _ (sorted_filter _ _ hs) ?_ ?_) (sorted_filter _ _ hs) ?_
    · split
      · rfl
      · exact (sorted_cons _ _ _).2 ⟨by simpa [Memory.blank] using ‹¬ v = Memory.blank›, by simp, rfl⟩
    · intro c hc d hd
      have h1 := List.of_mem_filter hc
      simp only [decide_eq_true_eq] at h1
      split at hd
      · simp at hd
      · simp at hd; subst hd; exact h1
    · intro c hc d hd
      have h2 := List.of_mem_filter hd
      simp only [decide_eq_true_eq] at h2
      rcases List.mem_append.1 hc with hc | hc
      · have h1 := List.of_mem_filter hc
        simp only [decide_eq_true_eq] at h1
        omega
      · split at hc
        · simp at hc
        · simp at hc; subst hc; simp only; omega
  · intro c hc
    unfold Memory.write at hc
    rcases List.mem_append.1 hc with hc | hc
    · rcases List.mem_append.1 hc with hc | hc
      · exact hb c (List.mem_of_mem_filter hc)
      · split at hc
        · simp at hc
        · simp at hc; subst hc; exact ha
    · exact hb c (List.mem_of_mem_filter hc)

theorem wf_window (m : Memory w) (base size total : Nat) (h : Memory.wf total m = true) :
    Memory.wf size (m.window base size) = true := by
  obtain ⟨hs, -⟩ := (wf_iff _ _).1 h
  have hmem : ∀ c ∈ (m.upFrom base).below (base + size), base ≤ c.1 ∧ c.1 < base + size := by
    intro c hc
    have h1 := List.of_mem_filter hc
    have h2 := List.of_mem_filter (List.mem_of_mem_filter hc)
    simp only [decide_eq_true_eq] at h1 h2
    exact ⟨h2, h1⟩
  refine (wf_iff _ _).2 ⟨?_, ?_⟩
  · refine sorted_map (fun k => k - base) _ (sorted_filter _ _ (sorted_filter _ _ hs)) ?_
    intro c hc d hd hlt
    have := hmem c hc
    omega
  · intro c hc
    obtain ⟨d, hd, rfl⟩ := List.mem_map.1 hc
    have := hmem d hd
    simp only
    omega

theorem wf_splice (m page : Memory w) (base size total : Nat) (h : Memory.wf total m = true)
    (hp : Memory.wf size page = true) (hb : base + size ≤ total) :
    Memory.wf total (m.splice base size page) = true := by
  obtain ⟨hs, hm⟩ := (wf_iff _ _).1 h
  obtain ⟨hps, hpm⟩ := (wf_iff _ _).1 hp
  have hmid : ∀ c ∈ (page.below size).shiftUp base, base ≤ c.1 ∧ c.1 < base + size := by
    intro c hc
    obtain ⟨d, hd, rfl⟩ := List.mem_map.1 hc
    have := hpm d (List.mem_of_mem_filter hd)
    simp only
    omega
  refine (wf_iff _ _).2 ⟨?_, ?_⟩
  · unfold Memory.splice
    refine sorted_append _ _ (sorted_append _ _ (sorted_filter _ _ hs) ?_ ?_) (sorted_filter _ _ hs) ?_
    · exact sorted_map (fun k => base + k) _ (sorted_filter _ _ hps) fun c _ d _ hlt => by omega
    · intro c hc d hd
      have h1 := List.of_mem_filter hc
      simp only [decide_eq_true_eq] at h1
      have := hmid d hd
      omega
    · intro c hc d hd
      have h2 := List.of_mem_filter hd
      simp only [decide_eq_true_eq] at h2
      rcases List.mem_append.1 hc with hc | hc
      · have h1 := List.of_mem_filter hc
        simp only [decide_eq_true_eq] at h1
        omega
      · have := hmid c hc
        omega
  · intro c hc
    unfold Memory.splice at hc
    rcases List.mem_append.1 hc with hc | hc
    · rcases List.mem_append.1 hc with hc | hc
      · exact hm c (List.mem_of_mem_filter hc)
      · have := hmid c hc
        omega
    · exact hm c (List.mem_of_mem_filter hc)

/-- A list loaded into a memory reads back, and the addresses above it read as blank. -/
theorem read_ofList (vs : List (BitVec w)) (a : Nat) : Memory.read (Memory.ofList vs) a = vs.getD a 0 := by
  have key : ∀ (vs : List (BitVec w)) (b : Nat),
      Memory.read (((List.range' b vs.length).zip vs).filter fun c => c.2 != Memory.blank) a
        = if b ≤ a then vs.getD (a - b) 0 else 0 := by
    intro vs
    induction vs with
    | nil => intro b; simp
    | cons v vs ih =>
      intro b
      have hb : List.range' b (v :: vs).length = b :: List.range' (b + 1) vs.length := by
        simp [List.range'_succ]
      rw [hb, List.zip_cons_cons, List.filter_cons]
      rcases Nat.lt_trichotomy a b with h | h | h
      · have h1 : ¬ b + 1 ≤ a := by omega
        have h2 : ¬ b ≤ a := by omega
        have h3 : b ≠ a := by omega
        rw [if_neg h2]
        split <;> simp only [read_cons, ih, h1, h3, if_false]
      · subst h
        by_cases hv : v = Memory.blank
        · simp only [hv, bne_self_eq_false, Bool.false_eq_true, if_false, ih]
          simp [Memory.blank]
        · simp [hv, read_cons]
      · have h1 : b + 1 ≤ a := h
        have h2 : b ≤ a := by omega
        have h3 : b ≠ a := by omega
        have h4 : a - b = (a - (b + 1)) + 1 := by omega
        rw [if_pos h2, h4]
        split <;> simp only [read_cons, ih, h1, h3, if_true, if_false, List.getD_cons_succ]
  have := key vs 0
  simpa [Memory.ofList, List.range_eq_range'] using this

theorem wf_ofList (vs : List (BitVec w)) (size : Nat) (h : vs.length ≤ size) :
    Memory.wf size (Memory.ofList vs) = true := by
  have key : ∀ (vs : List (BitVec w)) (b : Nat),
      Memory.sorted (((List.range' b vs.length).zip vs).filter fun c => c.2 != Memory.blank) = true
        ∧ ∀ c ∈ ((List.range' b vs.length).zip vs).filter (fun c => c.2 != Memory.blank),
          b ≤ c.1 ∧ c.1 < b + vs.length := by
    intro vs
    induction vs with
    | nil => intro b; simp [Memory.sorted]
    | cons v vs ih =>
      intro b
      have hb : List.range' b (v :: vs).length = b :: List.range' (b + 1) vs.length := by
        simp [List.range'_succ]
      rw [hb, List.zip_cons_cons, List.filter_cons]
      obtain ⟨i1, i2⟩ := ih (b + 1)
      have i3 : ∀ c ∈ ((List.range' (b + 1) vs.length).zip vs).filter (fun c => c.2 != Memory.blank),
          b ≤ c.1 ∧ c.1 < b + (v :: vs).length := fun c hc => by
        have := i2 c hc; simp only [List.length_cons]; omega
      split
      · rename_i hv
        refine ⟨(sorted_cons _ _ _).2 ⟨by simpa [Memory.blank] using hv, fun c hc => ?_, i1⟩, ?_⟩
        · have := i2 c hc; omega
        · intro c hc
          rcases List.mem_cons.1 hc with rfl | hc
          · simp
          · exact i3 c hc
      · exact ⟨i1, i3⟩
  obtain ⟨k1, k2⟩ := key vs 0
  refine (wf_iff _ _).2 ⟨by simpa [Memory.ofList, List.range_eq_range'] using k1, fun c hc => ?_⟩
  have := k2 c (by simpa [Memory.ofList, List.range_eq_range'] using hc)
  omega

end Sys2Proof.Laws
end

