-- ==== Sys2Proof/Laws/Registers.lean ====
section
/-! SUPPORT. The register file: reading after a write, and what the operand read and the two writes do to every register. -/

namespace Sys2Proof.Laws

open Sys2Proof.Machine

/-- A register number is one of eight. -/
theorem regIx_cases (i : RegIx) : i = 0 ∨ i = 1 ∨ i = 2 ∨ i = 3 ∨ i = 4 ∨ i = 5 ∨ i = 6 ∨ i = 7 := by
  revert i; decide

/-- A register after a write: the value written, or what it held. -/
theorem regs_get_set (r : Regs) (i j : RegIx) (v : Byte) : (r.set i v).get j = if j = i then v else r.get j := by
  rcases regIx_cases i with h | h | h | h | h | h | h | h <;>
    rcases regIx_cases j with g | g | g | g | g | g | g | g <;> subst h <;> subst g <;> rfl

@[simp] theorem regs_get_set_same (r : Regs) (i : RegIx) (v : Byte) : (r.set i v).get i = v := by
  simp [regs_get_set]

/-- Two register files with the same eight registers are equal. -/
theorem regs_ext (r r' : Regs) (h : ∀ i, r.get i = r'.get i) : r = r' := by
  cases r; cases r'
  have h0 := h 0; have h1 := h 1; have h2 := h 2; have h3 := h 3
  have h4 := h 4; have h5 := h 5; have h6 := h 6; have h7 := h 7
  simp only [Regs.mk.injEq]
  exact ⟨h0, h1, h2, h3, h4, h5, h6, h7⟩

@[simp] theorem readReg_val (s : State) (i : RegIx) : (s.readReg i).val = s.reg i := rfl

/-- The state after an operand read: register 0 is 0 if it is the one read, nothing else changes (spec/10_state.md R12). -/
theorem readReg_st (s : State) (i : RegIx) :
    (s.readReg i).st = { s with regs := if i = 0 then s.regs.set 0 0 else s.regs } := by
  unfold State.readReg; split <;> rfl

/-- The state after a normal write: dropped for register 0, nothing else changes (R13). -/
theorem writeReg_eq (s : State) (i : RegIx) (v : Byte) :
    s.writeReg i v = { s with regs := if i = 0 then s.regs else s.regs.set i v } := by
  unfold State.writeReg; split <;> rfl

/-- Every register after an operand read. -/
theorem reg_readReg (s : State) (i j : RegIx) :
    ((s.readReg i).st).reg j = if i = 0 ∧ j = 0 then 0 else s.reg j := by
  rw [readReg_st]
  unfold State.reg
  by_cases hi : i = 0
  · rw [if_pos hi]
    exact (regs_get_set _ _ _ _).trans (by by_cases hj : j = 0 <;> simp only [hi, hj, true_and, if_true, if_false])
  · rw [if_neg hi, if_neg fun h => hi h.1]

/-- Every register after a normal write. -/
theorem reg_writeReg (s : State) (i j : RegIx) (v : Byte) :
    (s.writeReg i v).reg j = if j = i ∧ i ≠ 0 then v else s.reg j := by
  rw [writeReg_eq]
  unfold State.reg
  by_cases hi : i = 0
  · rw [if_pos hi, if_neg fun h => h.2 hi]
  · rw [if_neg hi]
    exact (regs_get_set _ _ _ _).trans (by by_cases hj : j = i <;> simp only [hi, hj, ne_eq, not_false_eq_true, and_true, if_true, if_false])

/-- Every register after a direct write (R14). -/
theorem reg_writeDirect (s : State) (i j : RegIx) (v : Byte) :
    (s.writeDirect i v).reg j = if j = i then v else s.reg j := regs_get_set _ _ _ _

end Sys2Proof.Laws
end

