-- ==== Sys2Proof/Laws/State.lean ====
section
/-! SUPPORT. One lemma per field per update of the state: what an operation writes and that it writes nothing else, each true by
unfolding the record update, so that no later proof unfolds one. The operations that update under a condition are in
`Laws/Ops.lean`. -/

namespace Sys2Proof.Laws

open Sys2Proof.Machine

variable (s : State)

/-! ## seterr -/

@[simp] theorem seterr_regs : (s.seterr).regs = s.regs := rfl
@[simp] theorem seterr_sw : (s.seterr).sw = setErr s.sw := rfl
@[simp] theorem seterr_cw : (s.seterr).cw = s.cw := rfl
@[simp] theorem seterr_pc : (s.seterr).pc = s.pc := rfl
@[simp] theorem seterr_cs : (s.seterr).cs = s.cs := rfl
@[simp] theorem seterr_csp : (s.seterr).csp = s.csp := rfl
@[simp] theorem seterr_ap : (s.seterr).ap = s.ap := rfl
@[simp] theorem seterr_loopStart : (s.seterr).loopStart = s.loopStart := rfl
@[simp] theorem seterr_loopEnd : (s.seterr).loopEnd = s.loopEnd := rfl
@[simp] theorem seterr_loopCount : (s.seterr).loopCount = s.loopCount := rfl
@[simp] theorem seterr_loopPtr : (s.seterr).loopPtr = s.loopPtr := rfl
@[simp] theorem seterr_vsp : (s.seterr).vsp = s.vsp := rfl
@[simp] theorem seterr_pool : (s.seterr).pool = s.pool := rfl
@[simp] theorem seterr_bank : (s.seterr).bank = s.bank := rfl
@[simp] theorem seterr_page : (s.seterr).page = s.page := rfl
@[simp] theorem seterr_dirty : (s.seterr).dirty = s.dirty := rfl
@[simp] theorem seterr_ipool : (s.seterr).ipool = s.ipool := rfl
@[simp] theorem seterr_icache : (s.seterr).icache = s.icache := rfl
@[simp] theorem seterr_ipage : (s.seterr).ipage = s.ipage := rfl
@[simp] theorem seterr_outLatch : (s.seterr).outLatch = s.outLatch := rfl
@[simp] theorem seterr_inLatch : (s.seterr).inLatch = s.inLatch := rfl
@[simp] theorem seterr_vt : (s.seterr).vt = s.vt := rfl
@[simp] theorem seterr_mask : (s.seterr).mask = s.mask := rfl
@[simp] theorem seterr_pend : (s.seterr).pend = s.pend := rfl
@[simp] theorem seterr_act : (s.seterr).act = s.act := rfl
@[simp] theorem seterr_run : (s.seterr).run = s.run := rfl
@[simp] theorem seterr_devices : (s.seterr).devices = s.devices := rfl
@[simp] theorem seterr_deviceCalls : (s.seterr).deviceCalls = s.deviceCalls := rfl
@[simp] theorem seterr_inputs : (s.seterr).inputs = s.inputs := rfl
@[simp] theorem seterr_draws : (s.seterr).draws = s.draws := rfl

/-! ## raiseDomainFault -/

@[simp] theorem raiseDomainFault_regs : (s.raiseDomainFault).regs = s.regs := rfl
@[simp] theorem raiseDomainFault_sw : (s.raiseDomainFault).sw = s.sw := rfl
@[simp] theorem raiseDomainFault_cw : (s.raiseDomainFault).cw = s.cw := rfl
@[simp] theorem raiseDomainFault_pc : (s.raiseDomainFault).pc = s.pc := rfl
@[simp] theorem raiseDomainFault_cs : (s.raiseDomainFault).cs = s.cs := rfl
@[simp] theorem raiseDomainFault_csp : (s.raiseDomainFault).csp = s.csp := rfl
@[simp] theorem raiseDomainFault_ap : (s.raiseDomainFault).ap = s.ap := rfl
@[simp] theorem raiseDomainFault_loopStart : (s.raiseDomainFault).loopStart = s.loopStart := rfl
@[simp] theorem raiseDomainFault_loopEnd : (s.raiseDomainFault).loopEnd = s.loopEnd := rfl
@[simp] theorem raiseDomainFault_loopCount : (s.raiseDomainFault).loopCount = s.loopCount := rfl
@[simp] theorem raiseDomainFault_loopPtr : (s.raiseDomainFault).loopPtr = s.loopPtr := rfl
@[simp] theorem raiseDomainFault_vsp : (s.raiseDomainFault).vsp = s.vsp := rfl
@[simp] theorem raiseDomainFault_pool : (s.raiseDomainFault).pool = s.pool := rfl
@[simp] theorem raiseDomainFault_bank : (s.raiseDomainFault).bank = s.bank := rfl
@[simp] theorem raiseDomainFault_page : (s.raiseDomainFault).page = s.page := rfl
@[simp] theorem raiseDomainFault_dirty : (s.raiseDomainFault).dirty = s.dirty := rfl
@[simp] theorem raiseDomainFault_ipool : (s.raiseDomainFault).ipool = s.ipool := rfl
@[simp] theorem raiseDomainFault_icache : (s.raiseDomainFault).icache = s.icache := rfl
@[simp] theorem raiseDomainFault_ipage : (s.raiseDomainFault).ipage = s.ipage := rfl
@[simp] theorem raiseDomainFault_outLatch : (s.raiseDomainFault).outLatch = s.outLatch := rfl
@[simp] theorem raiseDomainFault_inLatch : (s.raiseDomainFault).inLatch = s.inLatch := rfl
@[simp] theorem raiseDomainFault_vt : (s.raiseDomainFault).vt = s.vt := rfl
@[simp] theorem raiseDomainFault_mask : (s.raiseDomainFault).mask = s.mask := rfl
@[simp] theorem raiseDomainFault_pend : (s.raiseDomainFault).pend = s.pend := rfl
@[simp] theorem raiseDomainFault_act : (s.raiseDomainFault).act = s.act := rfl
@[simp] theorem raiseDomainFault_run : (s.raiseDomainFault).run = .faulted := rfl
@[simp] theorem raiseDomainFault_devices : (s.raiseDomainFault).devices = s.devices := rfl
@[simp] theorem raiseDomainFault_deviceCalls : (s.raiseDomainFault).deviceCalls = s.deviceCalls := rfl
@[simp] theorem raiseDomainFault_inputs : (s.raiseDomainFault).inputs = s.inputs := rfl
@[simp] theorem raiseDomainFault_draws : (s.raiseDomainFault).draws = s.draws := rfl

/-! ## writeDirect -/

@[simp] theorem writeDirect_regs (i : RegIx) (v : Byte) : (s.writeDirect i v).regs = s.regs.set i v := rfl
@[simp] theorem writeDirect_sw (i : RegIx) (v : Byte) : (s.writeDirect i v).sw = s.sw := rfl
@[simp] theorem writeDirect_cw (i : RegIx) (v : Byte) : (s.writeDirect i v).cw = s.cw := rfl
@[simp] theorem writeDirect_pc (i : RegIx) (v : Byte) : (s.writeDirect i v).pc = s.pc := rfl
@[simp] theorem writeDirect_cs (i : RegIx) (v : Byte) : (s.writeDirect i v).cs = s.cs := rfl
@[simp] theorem writeDirect_csp (i : RegIx) (v : Byte) : (s.writeDirect i v).csp = s.csp := rfl
@[simp] theorem writeDirect_ap (i : RegIx) (v : Byte) : (s.writeDirect i v).ap = s.ap := rfl
@[simp] theorem writeDirect_loopStart (i : RegIx) (v : Byte) : (s.writeDirect i v).loopStart = s.loopStart := rfl
@[simp] theorem writeDirect_loopEnd (i : RegIx) (v : Byte) : (s.writeDirect i v).loopEnd = s.loopEnd := rfl
@[simp] theorem writeDirect_loopCount (i : RegIx) (v : Byte) : (s.writeDirect i v).loopCount = s.loopCount := rfl
@[simp] theorem writeDirect_loopPtr (i : RegIx) (v : Byte) : (s.writeDirect i v).loopPtr = s.loopPtr := rfl
@[simp] theorem writeDirect_vsp (i : RegIx) (v : Byte) : (s.writeDirect i v).vsp = s.vsp := rfl
@[simp] theorem writeDirect_pool (i : RegIx) (v : Byte) : (s.writeDirect i v).pool = s.pool := rfl
@[simp] theorem writeDirect_bank (i : RegIx) (v : Byte) : (s.writeDirect i v).bank = s.bank := rfl
@[simp] theorem writeDirect_page (i : RegIx) (v : Byte) : (s.writeDirect i v).page = s.page := rfl
@[simp] theorem writeDirect_dirty (i : RegIx) (v : Byte) : (s.writeDirect i v).dirty = s.dirty := rfl
@[simp] theorem writeDirect_ipool (i : RegIx) (v : Byte) : (s.writeDirect i v).ipool = s.ipool := rfl
@[simp] theorem writeDirect_icache (i : RegIx) (v : Byte) : (s.writeDirect i v).icache = s.icache := rfl
@[simp] theorem writeDirect_ipage (i : RegIx) (v : Byte) : (s.writeDirect i v).ipage = s.ipage := rfl
@[simp] theorem writeDirect_outLatch (i : RegIx) (v : Byte) : (s.writeDirect i v).outLatch = s.outLatch := rfl
@[simp] theorem writeDirect_inLatch (i : RegIx) (v : Byte) : (s.writeDirect i v).inLatch = s.inLatch := rfl
@[simp] theorem writeDirect_vt (i : RegIx) (v : Byte) : (s.writeDirect i v).vt = s.vt := rfl
@[simp] theorem writeDirect_mask (i : RegIx) (v : Byte) : (s.writeDirect i v).mask = s.mask := rfl
@[simp] theorem writeDirect_pend (i : RegIx) (v : Byte) : (s.writeDirect i v).pend = s.pend := rfl
@[simp] theorem writeDirect_act (i : RegIx) (v : Byte) : (s.writeDirect i v).act = s.act := rfl
@[simp] theorem writeDirect_run (i : RegIx) (v : Byte) : (s.writeDirect i v).run = s.run := rfl
@[simp] theorem writeDirect_devices (i : RegIx) (v : Byte) : (s.writeDirect i v).devices = s.devices := rfl
@[simp] theorem writeDirect_deviceCalls (i : RegIx) (v : Byte) : (s.writeDirect i v).deviceCalls = s.deviceCalls := rfl
@[simp] theorem writeDirect_inputs (i : RegIx) (v : Byte) : (s.writeDirect i v).inputs = s.inputs := rfl
@[simp] theorem writeDirect_draws (i : RegIx) (v : Byte) : (s.writeDirect i v).draws = s.draws := rfl

/-! ## bankWrite -/

@[simp] theorem bankWrite_regs (o v : Byte) : (s.bankWrite o v).regs = s.regs := rfl
@[simp] theorem bankWrite_sw (o v : Byte) : (s.bankWrite o v).sw = s.sw := rfl
@[simp] theorem bankWrite_cw (o v : Byte) : (s.bankWrite o v).cw = s.cw := rfl
@[simp] theorem bankWrite_pc (o v : Byte) : (s.bankWrite o v).pc = s.pc := rfl
@[simp] theorem bankWrite_cs (o v : Byte) : (s.bankWrite o v).cs = s.cs := rfl
@[simp] theorem bankWrite_csp (o v : Byte) : (s.bankWrite o v).csp = s.csp := rfl
@[simp] theorem bankWrite_ap (o v : Byte) : (s.bankWrite o v).ap = s.ap := rfl
@[simp] theorem bankWrite_loopStart (o v : Byte) : (s.bankWrite o v).loopStart = s.loopStart := rfl
@[simp] theorem bankWrite_loopEnd (o v : Byte) : (s.bankWrite o v).loopEnd = s.loopEnd := rfl
@[simp] theorem bankWrite_loopCount (o v : Byte) : (s.bankWrite o v).loopCount = s.loopCount := rfl
@[simp] theorem bankWrite_loopPtr (o v : Byte) : (s.bankWrite o v).loopPtr = s.loopPtr := rfl
@[simp] theorem bankWrite_vsp (o v : Byte) : (s.bankWrite o v).vsp = s.vsp := rfl
@[simp] theorem bankWrite_pool (o v : Byte) : (s.bankWrite o v).pool = s.pool := rfl
@[simp] theorem bankWrite_bank (o v : Byte) : (s.bankWrite o v).bank = Memory.write s.bank o.toNat v := rfl
@[simp] theorem bankWrite_page (o v : Byte) : (s.bankWrite o v).page = s.page := rfl
@[simp] theorem bankWrite_dirty (o v : Byte) : (s.bankWrite o v).dirty = true := rfl
@[simp] theorem bankWrite_ipool (o v : Byte) : (s.bankWrite o v).ipool = s.ipool := rfl
@[simp] theorem bankWrite_icache (o v : Byte) : (s.bankWrite o v).icache = s.icache := rfl
@[simp] theorem bankWrite_ipage (o v : Byte) : (s.bankWrite o v).ipage = s.ipage := rfl
@[simp] theorem bankWrite_outLatch (o v : Byte) : (s.bankWrite o v).outLatch = s.outLatch := rfl
@[simp] theorem bankWrite_inLatch (o v : Byte) : (s.bankWrite o v).inLatch = s.inLatch := rfl
@[simp] theorem bankWrite_vt (o v : Byte) : (s.bankWrite o v).vt = s.vt := rfl
@[simp] theorem bankWrite_mask (o v : Byte) : (s.bankWrite o v).mask = s.mask := rfl
@[simp] theorem bankWrite_pend (o v : Byte) : (s.bankWrite o v).pend = s.pend := rfl
@[simp] theorem bankWrite_act (o v : Byte) : (s.bankWrite o v).act = s.act := rfl
@[simp] theorem bankWrite_run (o v : Byte) : (s.bankWrite o v).run = s.run := rfl
@[simp] theorem bankWrite_devices (o v : Byte) : (s.bankWrite o v).devices = s.devices := rfl
@[simp] theorem bankWrite_deviceCalls (o v : Byte) : (s.bankWrite o v).deviceCalls = s.deviceCalls := rfl
@[simp] theorem bankWrite_inputs (o v : Byte) : (s.bankWrite o v).inputs = s.inputs := rfl
@[simp] theorem bankWrite_draws (o v : Byte) : (s.bankWrite o v).draws = s.draws := rfl

/-! ## csPush -/

@[simp] theorem csPush_regs (v : Word) : (s.csPush v).regs = s.regs := rfl
@[simp] theorem csPush_sw (v : Word) : (s.csPush v).sw = s.sw := rfl
@[simp] theorem csPush_cw (v : Word) : (s.csPush v).cw = s.cw := rfl
@[simp] theorem csPush_pc (v : Word) : (s.csPush v).pc = s.pc := rfl
@[simp] theorem csPush_cs (v : Word) : (s.csPush v).cs = s.cs.write s.csp.toNat v := rfl
@[simp] theorem csPush_csp (v : Word) : (s.csPush v).csp = s.csp + 1 := rfl
@[simp] theorem csPush_ap (v : Word) : (s.csPush v).ap = s.ap := rfl
@[simp] theorem csPush_loopStart (v : Word) : (s.csPush v).loopStart = s.loopStart := rfl
@[simp] theorem csPush_loopEnd (v : Word) : (s.csPush v).loopEnd = s.loopEnd := rfl
@[simp] theorem csPush_loopCount (v : Word) : (s.csPush v).loopCount = s.loopCount := rfl
@[simp] theorem csPush_loopPtr (v : Word) : (s.csPush v).loopPtr = s.loopPtr := rfl
@[simp] theorem csPush_vsp (v : Word) : (s.csPush v).vsp = s.vsp := rfl
@[simp] theorem csPush_pool (v : Word) : (s.csPush v).pool = s.pool := rfl
@[simp] theorem csPush_bank (v : Word) : (s.csPush v).bank = s.bank := rfl
@[simp] theorem csPush_page (v : Word) : (s.csPush v).page = s.page := rfl
@[simp] theorem csPush_dirty (v : Word) : (s.csPush v).dirty = s.dirty := rfl
@[simp] theorem csPush_ipool (v : Word) : (s.csPush v).ipool = s.ipool := rfl
@[simp] theorem csPush_icache (v : Word) : (s.csPush v).icache = s.icache := rfl
@[simp] theorem csPush_ipage (v : Word) : (s.csPush v).ipage = s.ipage := rfl
@[simp] theorem csPush_outLatch (v : Word) : (s.csPush v).outLatch = s.outLatch := rfl
@[simp] theorem csPush_inLatch (v : Word) : (s.csPush v).inLatch = s.inLatch := rfl
@[simp] theorem csPush_vt (v : Word) : (s.csPush v).vt = s.vt := rfl
@[simp] theorem csPush_mask (v : Word) : (s.csPush v).mask = s.mask := rfl
@[simp] theorem csPush_pend (v : Word) : (s.csPush v).pend = s.pend := rfl
@[simp] theorem csPush_act (v : Word) : (s.csPush v).act = s.act := rfl
@[simp] theorem csPush_run (v : Word) : (s.csPush v).run = s.run := rfl
@[simp] theorem csPush_devices (v : Word) : (s.csPush v).devices = s.devices := rfl
@[simp] theorem csPush_deviceCalls (v : Word) : (s.csPush v).deviceCalls = s.deviceCalls := rfl
@[simp] theorem csPush_inputs (v : Word) : (s.csPush v).inputs = s.inputs := rfl
@[simp] theorem csPush_draws (v : Word) : (s.csPush v).draws = s.draws := rfl

/-! ## csPop -/

@[simp] theorem csPop_regs : (s.csPop).regs = s.regs := rfl
@[simp] theorem csPop_sw : (s.csPop).sw = s.sw := rfl
@[simp] theorem csPop_cw : (s.csPop).cw = s.cw := rfl
@[simp] theorem csPop_pc : (s.csPop).pc = s.pc := rfl
@[simp] theorem csPop_cs : (s.csPop).cs = s.cs := rfl
@[simp] theorem csPop_csp : (s.csPop).csp = s.csp - 1 := rfl
@[simp] theorem csPop_ap : (s.csPop).ap = s.ap := rfl
@[simp] theorem csPop_loopStart : (s.csPop).loopStart = s.loopStart := rfl
@[simp] theorem csPop_loopEnd : (s.csPop).loopEnd = s.loopEnd := rfl
@[simp] theorem csPop_loopCount : (s.csPop).loopCount = s.loopCount := rfl
@[simp] theorem csPop_loopPtr : (s.csPop).loopPtr = s.loopPtr := rfl
@[simp] theorem csPop_vsp : (s.csPop).vsp = s.vsp := rfl
@[simp] theorem csPop_pool : (s.csPop).pool = s.pool := rfl
@[simp] theorem csPop_bank : (s.csPop).bank = s.bank := rfl
@[simp] theorem csPop_page : (s.csPop).page = s.page := rfl
@[simp] theorem csPop_dirty : (s.csPop).dirty = s.dirty := rfl
@[simp] theorem csPop_ipool : (s.csPop).ipool = s.ipool := rfl
@[simp] theorem csPop_icache : (s.csPop).icache = s.icache := rfl
@[simp] theorem csPop_ipage : (s.csPop).ipage = s.ipage := rfl
@[simp] theorem csPop_outLatch : (s.csPop).outLatch = s.outLatch := rfl
@[simp] theorem csPop_inLatch : (s.csPop).inLatch = s.inLatch := rfl
@[simp] theorem csPop_vt : (s.csPop).vt = s.vt := rfl
@[simp] theorem csPop_mask : (s.csPop).mask = s.mask := rfl
@[simp] theorem csPop_pend : (s.csPop).pend = s.pend := rfl
@[simp] theorem csPop_act : (s.csPop).act = s.act := rfl
@[simp] theorem csPop_run : (s.csPop).run = s.run := rfl
@[simp] theorem csPop_devices : (s.csPop).devices = s.devices := rfl
@[simp] theorem csPop_deviceCalls : (s.csPop).deviceCalls = s.deviceCalls := rfl
@[simp] theorem csPop_inputs : (s.csPop).inputs = s.inputs := rfl
@[simp] theorem csPop_draws : (s.csPop).draws = s.draws := rfl

/-! ## csDrain -/

@[simp] theorem csDrain_regs : (s.csDrain).regs = s.regs := rfl
@[simp] theorem csDrain_sw : (s.csDrain).sw = s.sw := rfl
@[simp] theorem csDrain_cw : (s.csDrain).cw = s.cw := rfl
@[simp] theorem csDrain_pc : (s.csDrain).pc = s.pc := rfl
@[simp] theorem csDrain_cs : (s.csDrain).cs = [] := rfl
@[simp] theorem csDrain_csp : (s.csDrain).csp = 0 := rfl
@[simp] theorem csDrain_ap : (s.csDrain).ap = s.ap := rfl
@[simp] theorem csDrain_loopStart : (s.csDrain).loopStart = s.loopStart := rfl
@[simp] theorem csDrain_loopEnd : (s.csDrain).loopEnd = s.loopEnd := rfl
@[simp] theorem csDrain_loopCount : (s.csDrain).loopCount = s.loopCount := rfl
@[simp] theorem csDrain_loopPtr : (s.csDrain).loopPtr = s.loopPtr := rfl
@[simp] theorem csDrain_vsp : (s.csDrain).vsp = s.vsp := rfl
@[simp] theorem csDrain_pool : (s.csDrain).pool = s.pool := rfl
@[simp] theorem csDrain_bank : (s.csDrain).bank = s.bank := rfl
@[simp] theorem csDrain_page : (s.csDrain).page = s.page := rfl
@[simp] theorem csDrain_dirty : (s.csDrain).dirty = s.dirty := rfl
@[simp] theorem csDrain_ipool : (s.csDrain).ipool = s.ipool := rfl
@[simp] theorem csDrain_icache : (s.csDrain).icache = s.icache := rfl
@[simp] theorem csDrain_ipage : (s.csDrain).ipage = s.ipage := rfl
@[simp] theorem csDrain_outLatch : (s.csDrain).outLatch = s.outLatch := rfl
@[simp] theorem csDrain_inLatch : (s.csDrain).inLatch = s.inLatch := rfl
@[simp] theorem csDrain_vt : (s.csDrain).vt = s.vt := rfl
@[simp] theorem csDrain_mask : (s.csDrain).mask = s.mask := rfl
@[simp] theorem csDrain_pend : (s.csDrain).pend = s.pend := rfl
@[simp] theorem csDrain_act : (s.csDrain).act = s.act := rfl
@[simp] theorem csDrain_run : (s.csDrain).run = s.run := rfl
@[simp] theorem csDrain_devices : (s.csDrain).devices = s.devices := rfl
@[simp] theorem csDrain_deviceCalls : (s.csDrain).deviceCalls = s.deviceCalls := rfl
@[simp] theorem csDrain_inputs : (s.csDrain).inputs = s.inputs := rfl
@[simp] theorem csDrain_draws : (s.csDrain).draws = s.draws := rfl

/-! ## portWrite -/

@[simp] theorem portWrite_regs (p v : Byte) : (s.portWrite p v).regs = s.regs := rfl
@[simp] theorem portWrite_sw (p v : Byte) : (s.portWrite p v).sw = s.sw := rfl
@[simp] theorem portWrite_cw (p v : Byte) : (s.portWrite p v).cw = s.cw := rfl
@[simp] theorem portWrite_pc (p v : Byte) : (s.portWrite p v).pc = s.pc := rfl
@[simp] theorem portWrite_cs (p v : Byte) : (s.portWrite p v).cs = s.cs := rfl
@[simp] theorem portWrite_csp (p v : Byte) : (s.portWrite p v).csp = s.csp := rfl
@[simp] theorem portWrite_ap (p v : Byte) : (s.portWrite p v).ap = s.ap := rfl
@[simp] theorem portWrite_loopStart (p v : Byte) : (s.portWrite p v).loopStart = s.loopStart := rfl
@[simp] theorem portWrite_loopEnd (p v : Byte) : (s.portWrite p v).loopEnd = s.loopEnd := rfl
@[simp] theorem portWrite_loopCount (p v : Byte) : (s.portWrite p v).loopCount = s.loopCount := rfl
@[simp] theorem portWrite_loopPtr (p v : Byte) : (s.portWrite p v).loopPtr = s.loopPtr := rfl
@[simp] theorem portWrite_vsp (p v : Byte) : (s.portWrite p v).vsp = s.vsp := rfl
@[simp] theorem portWrite_pool (p v : Byte) : (s.portWrite p v).pool = s.pool := rfl
@[simp] theorem portWrite_bank (p v : Byte) : (s.portWrite p v).bank = s.bank := rfl
@[simp] theorem portWrite_page (p v : Byte) : (s.portWrite p v).page = s.page := rfl
@[simp] theorem portWrite_dirty (p v : Byte) : (s.portWrite p v).dirty = s.dirty := rfl
@[simp] theorem portWrite_ipool (p v : Byte) : (s.portWrite p v).ipool = s.ipool := rfl
@[simp] theorem portWrite_icache (p v : Byte) : (s.portWrite p v).icache = s.icache := rfl
@[simp] theorem portWrite_ipage (p v : Byte) : (s.portWrite p v).ipage = s.ipage := rfl
@[simp] theorem portWrite_outLatch (p v : Byte) : (s.portWrite p v).outLatch = Memory.write s.outLatch p.toNat v := rfl
@[simp] theorem portWrite_inLatch (p v : Byte) : (s.portWrite p v).inLatch = s.inLatch := rfl
@[simp] theorem portWrite_vt (p v : Byte) : (s.portWrite p v).vt = s.vt := rfl
@[simp] theorem portWrite_mask (p v : Byte) : (s.portWrite p v).mask = s.mask := rfl
@[simp] theorem portWrite_pend (p v : Byte) : (s.portWrite p v).pend = s.pend := rfl
@[simp] theorem portWrite_act (p v : Byte) : (s.portWrite p v).act = s.act := rfl
@[simp] theorem portWrite_run (p v : Byte) : (s.portWrite p v).run = s.run := rfl
@[simp] theorem portWrite_devices (p v : Byte) : (s.portWrite p v).devices = s.devices := rfl
@[simp] theorem portWrite_deviceCalls (p v : Byte) : (s.portWrite p v).deviceCalls = s.deviceWrite p v := rfl
@[simp] theorem portWrite_inputs (p v : Byte) : (s.portWrite p v).inputs = s.inputs := rfl
@[simp] theorem portWrite_draws (p v : Byte) : (s.portWrite p v).draws = s.draws := rfl

/-! ## portNotify -/

@[simp] theorem portNotify_regs (p v : Byte) : (s.portNotify p v).regs = s.regs := rfl
@[simp] theorem portNotify_sw (p v : Byte) : (s.portNotify p v).sw = s.sw := rfl
@[simp] theorem portNotify_cw (p v : Byte) : (s.portNotify p v).cw = s.cw := rfl
@[simp] theorem portNotify_pc (p v : Byte) : (s.portNotify p v).pc = s.pc := rfl
@[simp] theorem portNotify_cs (p v : Byte) : (s.portNotify p v).cs = s.cs := rfl
@[simp] theorem portNotify_csp (p v : Byte) : (s.portNotify p v).csp = s.csp := rfl
@[simp] theorem portNotify_ap (p v : Byte) : (s.portNotify p v).ap = s.ap := rfl
@[simp] theorem portNotify_loopStart (p v : Byte) : (s.portNotify p v).loopStart = s.loopStart := rfl
@[simp] theorem portNotify_loopEnd (p v : Byte) : (s.portNotify p v).loopEnd = s.loopEnd := rfl
@[simp] theorem portNotify_loopCount (p v : Byte) : (s.portNotify p v).loopCount = s.loopCount := rfl
@[simp] theorem portNotify_loopPtr (p v : Byte) : (s.portNotify p v).loopPtr = s.loopPtr := rfl
@[simp] theorem portNotify_vsp (p v : Byte) : (s.portNotify p v).vsp = s.vsp := rfl
@[simp] theorem portNotify_pool (p v : Byte) : (s.portNotify p v).pool = s.pool := rfl
@[simp] theorem portNotify_bank (p v : Byte) : (s.portNotify p v).bank = s.bank := rfl
@[simp] theorem portNotify_page (p v : Byte) : (s.portNotify p v).page = s.page := rfl
@[simp] theorem portNotify_dirty (p v : Byte) : (s.portNotify p v).dirty = s.dirty := rfl
@[simp] theorem portNotify_ipool (p v : Byte) : (s.portNotify p v).ipool = s.ipool := rfl
@[simp] theorem portNotify_icache (p v : Byte) : (s.portNotify p v).icache = s.icache := rfl
@[simp] theorem portNotify_ipage (p v : Byte) : (s.portNotify p v).ipage = s.ipage := rfl
@[simp] theorem portNotify_outLatch (p v : Byte) : (s.portNotify p v).outLatch = s.outLatch := rfl
@[simp] theorem portNotify_inLatch (p v : Byte) : (s.portNotify p v).inLatch = Memory.write s.inLatch p.toNat v := rfl
@[simp] theorem portNotify_vt (p v : Byte) : (s.portNotify p v).vt = s.vt := rfl
@[simp] theorem portNotify_mask (p v : Byte) : (s.portNotify p v).mask = s.mask := rfl
@[simp] theorem portNotify_pend (p v : Byte) : (s.portNotify p v).pend = s.pend := rfl
@[simp] theorem portNotify_act (p v : Byte) : (s.portNotify p v).act = s.act := rfl
@[simp] theorem portNotify_run (p v : Byte) : (s.portNotify p v).run = s.run := rfl
@[simp] theorem portNotify_devices (p v : Byte) : (s.portNotify p v).devices = s.devices := rfl
@[simp] theorem portNotify_deviceCalls (p v : Byte) : (s.portNotify p v).deviceCalls = s.deviceCalls := rfl
@[simp] theorem portNotify_inputs (p v : Byte) : (s.portNotify p v).inputs = s.inputs := rfl
@[simp] theorem portNotify_draws (p v : Byte) : (s.portNotify p v).draws = s.draws := rfl

/-! ## setVector -/

@[simp] theorem setVector_regs (v target : Byte) : (s.setVector v target).regs = s.regs := rfl
@[simp] theorem setVector_sw (v target : Byte) : (s.setVector v target).sw = s.sw := rfl
@[simp] theorem setVector_cw (v target : Byte) : (s.setVector v target).cw = s.cw := rfl
@[simp] theorem setVector_pc (v target : Byte) : (s.setVector v target).pc = s.pc := rfl
@[simp] theorem setVector_cs (v target : Byte) : (s.setVector v target).cs = s.cs := rfl
@[simp] theorem setVector_csp (v target : Byte) : (s.setVector v target).csp = s.csp := rfl
@[simp] theorem setVector_ap (v target : Byte) : (s.setVector v target).ap = s.ap := rfl
@[simp] theorem setVector_loopStart (v target : Byte) : (s.setVector v target).loopStart = s.loopStart := rfl
@[simp] theorem setVector_loopEnd (v target : Byte) : (s.setVector v target).loopEnd = s.loopEnd := rfl
@[simp] theorem setVector_loopCount (v target : Byte) : (s.setVector v target).loopCount = s.loopCount := rfl
@[simp] theorem setVector_loopPtr (v target : Byte) : (s.setVector v target).loopPtr = s.loopPtr := rfl
@[simp] theorem setVector_vsp (v target : Byte) : (s.setVector v target).vsp = s.vsp := rfl
@[simp] theorem setVector_pool (v target : Byte) : (s.setVector v target).pool = s.pool := rfl
@[simp] theorem setVector_bank (v target : Byte) : (s.setVector v target).bank = s.bank := rfl
@[simp] theorem setVector_page (v target : Byte) : (s.setVector v target).page = s.page := rfl
@[simp] theorem setVector_dirty (v target : Byte) : (s.setVector v target).dirty = s.dirty := rfl
@[simp] theorem setVector_ipool (v target : Byte) : (s.setVector v target).ipool = s.ipool := rfl
@[simp] theorem setVector_icache (v target : Byte) : (s.setVector v target).icache = s.icache := rfl
@[simp] theorem setVector_ipage (v target : Byte) : (s.setVector v target).ipage = s.ipage := rfl
@[simp] theorem setVector_outLatch (v target : Byte) : (s.setVector v target).outLatch = s.outLatch := rfl
@[simp] theorem setVector_inLatch (v target : Byte) : (s.setVector v target).inLatch = s.inLatch := rfl
@[simp] theorem setVector_vt (v target : Byte) : (s.setVector v target).vt = Memory.write s.vt (vectorIndex v) target := rfl
@[simp] theorem setVector_mask (v target : Byte) : (s.setVector v target).mask = s.mask := rfl
@[simp] theorem setVector_pend (v target : Byte) : (s.setVector v target).pend = s.pend := rfl
@[simp] theorem setVector_act (v target : Byte) : (s.setVector v target).act = s.act := rfl
@[simp] theorem setVector_run (v target : Byte) : (s.setVector v target).run = s.run := rfl
@[simp] theorem setVector_devices (v target : Byte) : (s.setVector v target).devices = s.devices := rfl
@[simp] theorem setVector_deviceCalls (v target : Byte) : (s.setVector v target).deviceCalls = s.deviceCalls := rfl
@[simp] theorem setVector_inputs (v target : Byte) : (s.setVector v target).inputs = s.inputs := rfl
@[simp] theorem setVector_draws (v target : Byte) : (s.setVector v target).draws = s.draws := rfl

/-! ## activePop -/

@[simp] theorem activePop_regs : (s.activePop).regs = s.regs := rfl
@[simp] theorem activePop_sw : (s.activePop).sw = s.sw := rfl
@[simp] theorem activePop_cw : (s.activePop).cw = s.cw := rfl
@[simp] theorem activePop_pc : (s.activePop).pc = s.pc := rfl
@[simp] theorem activePop_cs : (s.activePop).cs = s.cs := rfl
@[simp] theorem activePop_csp : (s.activePop).csp = s.csp := rfl
@[simp] theorem activePop_ap : (s.activePop).ap = s.ap := rfl
@[simp] theorem activePop_loopStart : (s.activePop).loopStart = s.loopStart := rfl
@[simp] theorem activePop_loopEnd : (s.activePop).loopEnd = s.loopEnd := rfl
@[simp] theorem activePop_loopCount : (s.activePop).loopCount = s.loopCount := rfl
@[simp] theorem activePop_loopPtr : (s.activePop).loopPtr = s.loopPtr := rfl
@[simp] theorem activePop_vsp : (s.activePop).vsp = s.vsp := rfl
@[simp] theorem activePop_pool : (s.activePop).pool = s.pool := rfl
@[simp] theorem activePop_bank : (s.activePop).bank = s.bank := rfl
@[simp] theorem activePop_page : (s.activePop).page = s.page := rfl
@[simp] theorem activePop_dirty : (s.activePop).dirty = s.dirty := rfl
@[simp] theorem activePop_ipool : (s.activePop).ipool = s.ipool := rfl
@[simp] theorem activePop_icache : (s.activePop).icache = s.icache := rfl
@[simp] theorem activePop_ipage : (s.activePop).ipage = s.ipage := rfl
@[simp] theorem activePop_outLatch : (s.activePop).outLatch = s.outLatch := rfl
@[simp] theorem activePop_inLatch : (s.activePop).inLatch = s.inLatch := rfl
@[simp] theorem activePop_vt : (s.activePop).vt = s.vt := rfl
@[simp] theorem activePop_mask : (s.activePop).mask = s.mask := rfl
@[simp] theorem activePop_pend : (s.activePop).pend = s.pend := rfl
@[simp] theorem activePop_act : (s.activePop).act = s.act.tail := rfl
@[simp] theorem activePop_run : (s.activePop).run = s.run := rfl
@[simp] theorem activePop_devices : (s.activePop).devices = s.devices := rfl
@[simp] theorem activePop_deviceCalls : (s.activePop).deviceCalls = s.deviceCalls := rfl
@[simp] theorem activePop_inputs : (s.activePop).inputs = s.inputs := rfl
@[simp] theorem activePop_draws : (s.activePop).draws = s.draws := rfl

/-! ## enterInterrupt -/

@[simp] theorem enterInterrupt_regs (q : Irq) (rest : List Irq) : (s.enterInterrupt q rest).regs = s.regs := rfl
@[simp] theorem enterInterrupt_sw (q : Irq) (rest : List Irq) : (s.enterInterrupt q rest).sw = s.sw := rfl
@[simp] theorem enterInterrupt_cw (q : Irq) (rest : List Irq) : (s.enterInterrupt q rest).cw = s.cw := rfl
@[simp] theorem enterInterrupt_pc (q : Irq) (rest : List Irq) : (s.enterInterrupt q rest).pc = s.handler q.vector := rfl
@[simp] theorem enterInterrupt_cs (q : Irq) (rest : List Irq) : (s.enterInterrupt q rest).cs = s.cs.write s.csp.toNat s.pc := rfl
@[simp] theorem enterInterrupt_csp (q : Irq) (rest : List Irq) : (s.enterInterrupt q rest).csp = s.csp + 1 := rfl
@[simp] theorem enterInterrupt_ap (q : Irq) (rest : List Irq) : (s.enterInterrupt q rest).ap = s.ap := rfl
@[simp] theorem enterInterrupt_loopStart (q : Irq) (rest : List Irq) : (s.enterInterrupt q rest).loopStart = s.loopStart := rfl
@[simp] theorem enterInterrupt_loopEnd (q : Irq) (rest : List Irq) : (s.enterInterrupt q rest).loopEnd = s.loopEnd := rfl
@[simp] theorem enterInterrupt_loopCount (q : Irq) (rest : List Irq) : (s.enterInterrupt q rest).loopCount = s.loopCount := rfl
@[simp] theorem enterInterrupt_loopPtr (q : Irq) (rest : List Irq) : (s.enterInterrupt q rest).loopPtr = s.loopPtr := rfl
@[simp] theorem enterInterrupt_vsp (q : Irq) (rest : List Irq) : (s.enterInterrupt q rest).vsp = s.vsp := rfl
@[simp] theorem enterInterrupt_pool (q : Irq) (rest : List Irq) : (s.enterInterrupt q rest).pool = s.pool := rfl
@[simp] theorem enterInterrupt_bank (q : Irq) (rest : List Irq) : (s.enterInterrupt q rest).bank = s.bank := rfl
@[simp] theorem enterInterrupt_page (q : Irq) (rest : List Irq) : (s.enterInterrupt q rest).page = s.page := rfl
@[simp] theorem enterInterrupt_dirty (q : Irq) (rest : List Irq) : (s.enterInterrupt q rest).dirty = s.dirty := rfl
@[simp] theorem enterInterrupt_ipool (q : Irq) (rest : List Irq) : (s.enterInterrupt q rest).ipool = s.ipool := rfl
@[simp] theorem enterInterrupt_icache (q : Irq) (rest : List Irq) : (s.enterInterrupt q rest).icache = s.icache := rfl
@[simp] theorem enterInterrupt_ipage (q : Irq) (rest : List Irq) : (s.enterInterrupt q rest).ipage = s.ipage := rfl
@[simp] theorem enterInterrupt_outLatch (q : Irq) (rest : List Irq) : (s.enterInterrupt q rest).outLatch = s.outLatch := rfl
@[simp] theorem enterInterrupt_inLatch (q : Irq) (rest : List Irq) : (s.enterInterrupt q rest).inLatch = s.inLatch := rfl
@[simp] theorem enterInterrupt_vt (q : Irq) (rest : List Irq) : (s.enterInterrupt q rest).vt = s.vt := rfl
@[simp] theorem enterInterrupt_mask (q : Irq) (rest : List Irq) : (s.enterInterrupt q rest).mask = s.mask := rfl
@[simp] theorem enterInterrupt_pend (q : Irq) (rest : List Irq) : (s.enterInterrupt q rest).pend = rest := rfl
@[simp] theorem enterInterrupt_act (q : Irq) (rest : List Irq) : (s.enterInterrupt q rest).act = q :: s.act := rfl
@[simp] theorem enterInterrupt_run (q : Irq) (rest : List Irq) : (s.enterInterrupt q rest).run = s.run := rfl
@[simp] theorem enterInterrupt_devices (q : Irq) (rest : List Irq) : (s.enterInterrupt q rest).devices = s.devices := rfl
@[simp] theorem enterInterrupt_deviceCalls (q : Irq) (rest : List Irq) : (s.enterInterrupt q rest).deviceCalls = s.deviceCalls := rfl
@[simp] theorem enterInterrupt_inputs (q : Irq) (rest : List Irq) : (s.enterInterrupt q rest).inputs = s.inputs := rfl
@[simp] theorem enterInterrupt_draws (q : Irq) (rest : List Irq) : (s.enterInterrupt q rest).draws = s.draws := rfl

/-! ## advance -/

@[simp] theorem advance_regs : (s.advance).regs = s.regs := rfl
@[simp] theorem advance_sw : (s.advance).sw = s.sw := rfl
@[simp] theorem advance_cw : (s.advance).cw = s.cw := rfl
@[simp] theorem advance_pc : (s.advance).pc = s.pc + 1 := rfl
@[simp] theorem advance_cs : (s.advance).cs = s.cs := rfl
@[simp] theorem advance_csp : (s.advance).csp = s.csp := rfl
@[simp] theorem advance_ap : (s.advance).ap = s.ap := rfl
@[simp] theorem advance_loopStart : (s.advance).loopStart = s.loopStart := rfl
@[simp] theorem advance_loopEnd : (s.advance).loopEnd = s.loopEnd := rfl
@[simp] theorem advance_loopCount : (s.advance).loopCount = s.loopCount := rfl
@[simp] theorem advance_loopPtr : (s.advance).loopPtr = s.loopPtr := rfl
@[simp] theorem advance_vsp : (s.advance).vsp = s.vsp := rfl
@[simp] theorem advance_pool : (s.advance).pool = s.pool := rfl
@[simp] theorem advance_bank : (s.advance).bank = s.bank := rfl
@[simp] theorem advance_page : (s.advance).page = s.page := rfl
@[simp] theorem advance_dirty : (s.advance).dirty = s.dirty := rfl
@[simp] theorem advance_ipool : (s.advance).ipool = s.ipool := rfl
@[simp] theorem advance_icache : (s.advance).icache = s.icache := rfl
@[simp] theorem advance_ipage : (s.advance).ipage = s.ipage := rfl
@[simp] theorem advance_outLatch : (s.advance).outLatch = s.outLatch := rfl
@[simp] theorem advance_inLatch : (s.advance).inLatch = s.inLatch := rfl
@[simp] theorem advance_vt : (s.advance).vt = s.vt := rfl
@[simp] theorem advance_mask : (s.advance).mask = s.mask := rfl
@[simp] theorem advance_pend : (s.advance).pend = s.pend := rfl
@[simp] theorem advance_act : (s.advance).act = s.act := rfl
@[simp] theorem advance_run : (s.advance).run = s.run := rfl
@[simp] theorem advance_devices : (s.advance).devices = s.devices := rfl
@[simp] theorem advance_deviceCalls : (s.advance).deviceCalls = s.deviceCalls := rfl
@[simp] theorem advance_inputs : (s.advance).inputs = s.inputs := rfl
@[simp] theorem advance_draws : (s.advance).draws = s.draws := rfl

end Sys2Proof.Laws
end

