-- ==== Sys2Proof/Laws/Ops.lean ====
section
/-! SUPPORT. One lemma for each shared operation that says what it can do: the bank window, the hardware stack, the privilege check,
the interrupt check, the environment's events and the fetch. -/

namespace Sys2Proof.Laws

open Sys2Proof.Machine

/-! ## Addresses -/

theorem pageOffset_lt (a : Word) : (pageOffset a).toNat < 256 := (pageOffset a).isLt

/-- A pool address is its page's base and its offset (spec/20_memory.md R41). -/
theorem addr_split (a : Word) : a.toNat = 256 * (dataPage a).toNat + (pageOffset a).toNat := by
  have := a.isLt
  simp only [dataPage, pageOffset, BitVec.extractLsb'_toNat, Nat.shiftRight_eq_div_pow, Nat.pow_zero, Nat.div_one]
  omega

/-- The address of an offset in a page. -/
def addrOf (p o : Byte) : Word := p ++ o

theorem addrOf_toNat (p o : Byte) : (addrOf p o).toNat = 256 * p.toNat + o.toNat := by
  have := o.isLt
  unfold addrOf
  rw [BitVec.toNat_append, Nat.shiftLeft_eq, ← Nat.shiftLeft_eq, ← Nat.shiftLeft_add_eq_or_of_lt this, Nat.shiftLeft_eq]
  omega

@[simp] theorem dataPage_addrOf (p o : Byte) : dataPage (addrOf p o) = p := by
  have h := addr_split (addrOf p o)
  rw [addrOf_toNat] at h
  apply BitVec.eq_of_toNat_eq
  have := o.isLt; have := (pageOffset (addrOf p o)).isLt
  omega

@[simp] theorem pageOffset_addrOf (p o : Byte) : pageOffset (addrOf p o) = o := by
  have h := addr_split (addrOf p o)
  rw [addrOf_toNat] at h
  apply BitVec.eq_of_toNat_eq
  have := o.isLt; have := (pageOffset (addrOf p o)).isLt
  omega

theorem addr_eq_iff (a b : Word) : a = b ↔ dataPage a = dataPage b ∧ pageOffset a = pageOffset b := by
  constructor
  · rintro rfl; exact ⟨rfl, rfl⟩
  · rintro ⟨h1, h2⟩
    apply BitVec.eq_of_toNat_eq
    rw [addr_split a, addr_split b, h1, h2]

/-! ## The bank window (spec/20_memory.md R43 to R47) -/

@[simp] theorem setPage_resident (s : State) : s.setPage s.page = s := by simp [State.setPage]

@[simp] theorem setPage_page (s : State) (p : Byte) : (s.setPage p).page = p := by
  unfold State.setPage; split <;> simp [*]

/-- `SetPage` touches nothing but the pool, the bank, `PAGE` and `DIRTY`. -/
theorem setPage_frame (s : State) (p : Byte) :
    s.setPage p = { s with pool := (s.setPage p).pool, bank := (s.setPage p).bank, page := (s.setPage p).page,
                           dirty := (s.setPage p).dirty } := by
  unfold State.setPage; split <;> rfl

/-- A real switch clears `DIRTY`; none keeps it (R44). -/
theorem setPage_dirty (s : State) (p : Byte) : (s.setPage p).dirty = if p = s.page then s.dirty else false := by
  unfold State.setPage; split <;> rfl

/-- The pool after `SetPage`: the old page written back if the bank was dirty and the page is left (R44). -/
theorem setPage_pool_read (s : State) (p : Byte) (a : Word) :
    Memory.read (s.setPage p).pool a.toNat =
      if p ≠ s.page ∧ s.dirty = true ∧ dataPage a = s.page then s.bankRead (pageOffset a) else Memory.read s.pool a.toNat := by
  have hs := addr_split a
  have ho := (pageOffset a).isLt
  unfold State.setPage
  by_cases hp : p = s.page
  · rw [if_pos hp, if_neg fun h => h.1 hp]
  · rw [if_neg hp]
    cases hd : s.dirty
    · simp
    · simp only [if_true, State.writeBack, read_splice, ne_eq, hp, not_false_eq_true, true_and, State.bankRead]
      by_cases hq : dataPage a = s.page
      · rw [if_pos hq, if_pos (by rw [hs, hq]; omega)]
        congr 1; rw [hs, hq]; omega
      · rw [if_neg hq, if_neg]
        intro h
        apply hq
        apply BitVec.eq_of_toNat_eq
        omega

/-- The bank after `SetPage`: as it was, or the new page of the pool (R44). -/
theorem setPage_bankRead (s : State) (p o : Byte) :
    (s.setPage p).bankRead o = if p = s.page then s.bankRead o else Memory.read (s.setPage p).pool (256 * p.toNat + o.toNat) := by
  have ho := o.isLt
  unfold State.setPage
  by_cases hp : p = s.page
  · rw [if_pos hp, if_pos hp]
  · rw [if_neg hp, if_neg hp]
    simp only [State.bankRead]
    rw [read_window, if_pos (by omega)]

/-- A page switch changes no byte of memory (R46), when a clean bank agrees with the pool (R45 b). -/
theorem setPage_mem (s : State) (h : s.bankAgrees) (p : Byte) (a : Word) : (s.setPage p).mem a = s.mem a := by
  by_cases hp : p = s.page
  · subst hp; rw [setPage_resident]
  · have hpool := setPage_pool_read s p a
    have hold : Memory.read (s.setPage p).pool a.toNat = s.mem a := by
      rw [hpool]
      unfold State.mem
      by_cases hq : dataPage a = s.page
      · rw [if_pos hq]
        by_cases hd : s.dirty = true
        · rw [if_pos ⟨hp, hd, hq⟩]
        · rw [if_neg fun g => hd g.2.1, h (by simpa using hd), ← hq, ← addr_split]
      · rw [if_neg fun g => hq g.2.2, if_neg hq]
    rw [← hold]
    conv_lhs => unfold State.mem
    rw [setPage_page]
    split
    · rename_i hq
      rw [setPage_bankRead, if_neg hp, ← hq, ← addr_split]
    · rfl

/-- After `SetPage` a clean bank agrees with the pool again (R45 b). -/
theorem setPage_bankAgrees (s : State) (h : s.bankAgrees) (p : Byte) : (s.setPage p).bankAgrees := by
  intro hd o
  by_cases hp : p = s.page
  · subst hp; rw [setPage_resident] at hd ⊢; exact h hd o
  · rw [setPage_bankRead, if_neg hp, setPage_page]

/-- `MemRead` delivers the architectural content, whatever is resident (R46). -/
@[simp] theorem memRead_val (s : State) (a : Word) : (s.memRead a).val = s.mem a := by
  show (s.setPage (dataPage a)).bankRead (pageOffset a) = s.mem a
  rw [setPage_bankRead]
  unfold State.mem
  by_cases hp : dataPage a = s.page
  · rw [if_pos hp, if_pos hp]
  · rw [if_neg hp, if_neg hp, ← addr_split, setPage_pool_read, if_neg fun h => hp h.2.2]

@[simp] theorem memRead_st (s : State) (a : Word) : (s.memRead a).st = s.setPage (dataPage a) := rfl

/-- A banked write changes the content of one address of the resident page (R43). -/
theorem bankWrite_mem (s : State) (o v : Byte) (a : Word) :
    (s.bankWrite o v).mem a = if dataPage a = s.page ∧ pageOffset a = o then v else s.mem a := by
  unfold State.mem State.bankRead
  rw [bankWrite_page, bankWrite_bank, bankWrite_pool]
  by_cases hp : dataPage a = s.page
  · rw [if_pos hp, read_write, if_pos hp]
    by_cases ho : pageOffset a = o
    · rw [if_pos (by rw [ho]), if_pos ⟨hp, ho⟩]
    · rw [if_neg fun h => ho (BitVec.eq_of_toNat_eq h), if_neg fun h => ho h.2]
  · rw [if_neg hp, if_neg hp, if_neg fun h => hp h.1]

/-- `MemWrite` changes the content of its address and of no other (R47). -/
theorem memWrite_mem (s : State) (h : s.bankAgrees) (b : Word) (v : Byte) (a : Word) :
    (s.memWrite b v).mem a = if a = b then v else s.mem a := by
  unfold State.memWrite
  rw [bankWrite_mem, setPage_page, setPage_mem s h]
  simp only [addr_eq_iff a b]

/-- `MemWrite` touches nothing but the pool, the bank, `PAGE` and `DIRTY`. -/
theorem memWrite_frame (s : State) (b : Word) (v : Byte) :
    s.memWrite b v = { s with pool := (s.memWrite b v).pool, bank := (s.memWrite b v).bank, page := dataPage b,
                              dirty := true } := by
  have h := setPage_frame s (dataPage b)
  unfold State.memWrite State.bankWrite
  rw [h]; simp

/-- Two states with the same pool, bank and page have the same memory. -/
theorem mem_congr (s t : State) (h1 : t.pool = s.pool) (h2 : t.bank = s.bank) (h3 : t.page = s.page) (a : Word) :
    t.mem a = s.mem a := by
  unfold State.mem State.bankRead; rw [h1, h2, h3]

/-! ## The hardware stack (spec/43_stack_memory.md R150, R151) -/

/-- A push either finds no slot and sets the error flag alone, or writes one byte and counts it. -/
theorem push_cases (s : State) (f : BitVec 3) (v : Byte) :
    (65535 < s.vsp + f.toNat ∧ s.push f v = s.seterr) ∨
    (s.vsp + f.toNat ≤ 65535 ∧
      s.push f v = { s.memWrite (slotAddr (s.vsp + f.toNat)) v with vsp := s.vsp + 1 }) := by
  unfold State.push State.pushSlot
  by_cases h : s.vsp + f.toNat ≤ 65535
  · refine .inr ⟨h, ?_⟩
    rw [if_pos h]
    show State.mk _ _ _ _ _ _ _ _ _ _ _ _ _ _ _ _ _ _ _ _ _ _ _ _ _ _ _ _ _ _ = _
    rw [memWrite_frame]
  · refine .inl ⟨by omega, ?_⟩
    rw [if_neg h]

/-- A poke either finds no slot and sets the error flag alone, or writes one byte. -/
theorem poke_cases (s : State) (f : BitVec 3) (v : Byte) :
    (s.vsp < 1 + f.toNat ∧ s.poke f v = s.seterr) ∨
    (1 + f.toNat ≤ s.vsp ∧ s.poke f v = s.memWrite (slotAddr (s.vsp - 1 - f.toNat)) v) := by
  unfold State.poke State.popSlot
  by_cases h : 1 + f.toNat ≤ s.vsp
  · exact .inr ⟨h, by rw [if_pos h]⟩
  · exact .inl ⟨by omega, by rw [if_neg h]⟩

/-- A pop or peek either finds no slot and sets the error flag alone, or reads one byte, its page becoming resident. -/
theorem popWith_cases (s : State) (f : BitVec 3) (drop : Nat) (use : Byte → State → State) :
    (s.vsp < 1 + f.toNat ∧ s.popWith f drop use = s.seterr) ∨
    (1 + f.toNat ≤ s.vsp ∧
      s.popWith f drop use =
        use (s.mem (slotAddr (s.vsp - 1 - f.toNat)))
          { s.setPage (dataPage (slotAddr (s.vsp - 1 - f.toNat))) with vsp := s.vsp - drop }) := by
  unfold State.popWith State.popSlot
  by_cases h : 1 + f.toNat ≤ s.vsp
  · refine .inr ⟨h, ?_⟩
    rw [if_pos h]
    simp only [memRead_val, memRead_st]
    rw [show (s.setPage (dataPage (slotAddr (s.vsp - 1 - f.toNat)))).vsp = s.vsp by rw [setPage_frame]]
  · exact .inl ⟨by omega, by rw [if_neg h]⟩

/-! ## Privilege (spec/60_exceptions.md R281) -/

theorem privileged_kernel (s : State) (body : State → State) (h : s.kernel = true) : s.privileged body = body s := by
  simp [State.privileged, h]

theorem privileged_user (s : State) (body : State → State) (h : s.kernel = false) : s.privileged body = s.seterr := by
  simp [State.privileged, h]

/-! ## The call stack (spec/10_state.md R26, R27) -/

/-- The entry a pop returns after a push is the one pushed. -/
theorem csTop_csPush (s : State) (v : Word) : (s.csPush v).csTop = v := by
  unfold State.csTop
  rw [csPush_cs, csPush_csp]
  have : s.csp + 1 - 1 = s.csp := by rw [BitVec.add_sub_cancel]
  rw [this, read_write_same]

/-! ## The interrupt check (spec/60_exceptions.md R277, R278) -/

/-- The check dispatches the top pending request or changes nothing. -/
theorem checkInterrupt_cases (s : State) :
    (∃ q rest, s.pend = q :: rest ∧ s.irqEnable = true ∧ s.outranksActive q = true ∧
      s.checkInterrupt = s.enterInterrupt q rest) ∨
    (s.checkInterrupt = s ∧
      ∀ q rest, s.pend = q :: rest → s.irqEnable = false ∨ s.outranksActive q = false) := by
  unfold State.checkInterrupt State.irqGate ieGatesDispatch
  cases hp : s.pend with
  | nil => exact .inr ⟨rfl, by simp⟩
  | cons q rest =>
    simp only [Bool.not_true, Bool.or_false]
    cases he : s.irqEnable <;> cases ho : s.outranksActive q <;> simp [ho]

/-! ## The fetch (spec/20_memory.md R54, R55) -/

/-- A word address is its page's base and its offset (R52). -/
theorem instrAddr_split (a : Word) : a.toNat = 64 * (instrPage a).toNat + (branchOffset a).toNat := by
  have := a.isLt
  simp only [instrPage, branchOffset, BitVec.extractLsb'_toNat, Nat.shiftRight_eq_div_pow, Nat.pow_zero, Nat.div_one]
  omega

/-- The cache holds the page asked for and nothing but the cache has changed. -/
theorem loadInstrPage_frame (s : State) (a : Word) :
    s.loadInstrPage a = { s with icache := (s.loadInstrPage a).icache, ipage := instrPage a } := by
  unfold State.loadInstrPage
  split
  · rename_i h; rw [h]
  · rfl

/-- A cache that agrees with the store agrees after a fetch, too. -/
theorem loadInstrPage_cacheAgrees (s : State) (h : s.cacheAgrees) (a : Word) : (s.loadInstrPage a).cacheAgrees := by
  unfold State.loadInstrPage
  split
  · exact h
  · intro i
    have := i.isLt
    simp only
    rw [read_window, if_pos (by omega)]

/-- The word fetched is the one in the store (R55). -/
theorem cachedWord_eq (s : State) (h : s.cacheAgrees) (a : Word) :
    (s.loadInstrPage a).cachedWord a = s.ipool.read a.toNat := by
  unfold State.cachedWord
  rw [loadInstrPage_cacheAgrees s h a (branchOffset a), loadInstrPage_frame, ← instrAddr_split]

/-! ## The environment (spec/70_reset_and_hazards.md R303, R304) -/

/-- An event touches the interrupt stacks, the input latches and `RUN`, and nothing else. -/
theorem deliver_frame (s : State) (e : EnvEvent) :
    s.deliver e = { s with pend := (s.deliver e).pend, act := (s.deliver e).act, inLatch := (s.deliver e).inLatch,
                           run := (s.deliver e).run } := by
  cases e <;>
    simp only [State.deliver, State.irqRequest, State.activePop, State.portNotify, State.hostStart, State.hostPause,
      State.hostStop] <;> (try split) <;> rfl

/-- So does a batch of events. -/
theorem deliver_all_frame (es : List EnvEvent) (s : State) :
    es.foldl State.deliver s =
      { s with pend := (es.foldl State.deliver s).pend, act := (es.foldl State.deliver s).act,
               inLatch := (es.foldl State.deliver s).inLatch, run := (es.foldl State.deliver s).run } := by
  induction es generalizing s with
  | nil => rfl
  | cons e es ih =>
    simp only [List.foldl_cons]
    rw [ih, deliver_frame]

/-- With nothing to deliver nothing happens. -/
theorem takeInputs_nil (s : State) (h : s.inputs = []) : s.takeInputs = s := by simp only [State.takeInputs, h]

/-- What the environment delivers touches the interrupt stacks, the input latches, `RUN` and the list of inputs. -/
theorem takeInputs_frame (s : State) :
    s.takeInputs = { s with pend := s.takeInputs.pend, act := s.takeInputs.act, inLatch := s.takeInputs.inLatch,
                            run := s.takeInputs.run, inputs := s.inputs.tail } := by
  rcases h : s.inputs with _ | ⟨b, rest⟩
  · rw [takeInputs_nil s h, List.tail_nil, ← h]
  · have hs : s.takeInputs = b.foldl State.deliver { s with inputs := rest } := by simp only [State.takeInputs, h]
    rw [hs, List.tail_cons]
    exact deliver_all_frame b { s with inputs := rest }

/-- Every event keeps the input latches in canonical form. -/
theorem deliver_inLatch_wf (s : State) (e : EnvEvent) (h : Memory.wf 256 s.inLatch = true) :
    Memory.wf 256 (s.deliver e).inLatch = true := by
  cases e with
  | portNotify p v => exact wf_write _ _ _ _ h p.isLt
  | irqRequest q => simp only [State.deliver, State.irqRequest]; split <;> exact h
  | activePop => exact h
  | start => simp only [State.deliver, State.hostStart]; split <;> exact h
  | pause => simp only [State.deliver, State.hostPause]; split <;> exact h
  | stop => simp only [State.deliver, State.hostStop]; split <;> exact h

end Sys2Proof.Laws
end

