-- ==== Sys2Proof/Laws/Flags.lean ====
section
/-! SUPPORT. The bits of a status word built by `packSw`, of the flag shapes, and the small facts about the units. -/

namespace Sys2Proof.Laws

open Sys2Proof.Machine

/-- The eight bits of a packed status word, in order (spec/10_state.md R16). -/
theorem packSw_bits (c e p r3 a v z g : Bool) :
    (packSw c e p r3 a v z g).getLsbD 0 = c ∧ (packSw c e p r3 a v z g).getLsbD 1 = e ∧
    (packSw c e p r3 a v z g).getLsbD 2 = p ∧ (packSw c e p r3 a v z g).getLsbD 3 = r3 ∧
    (packSw c e p r3 a v z g).getLsbD 4 = a ∧ (packSw c e p r3 a v z g).getLsbD 5 = v ∧
    (packSw c e p r3 a v z g).getLsbD 6 = z ∧ (packSw c e p r3 a v z g).getLsbD 7 = g := by
  revert c e p r3 a v z g; decide

@[simp] theorem packSw_C (c e p r3 a v z g : Bool) : swC (packSw c e p r3 a v z g) = c := (packSw_bits c e p r3 a v z g).1
@[simp] theorem packSw_E (c e p r3 a v z g : Bool) : swE (packSw c e p r3 a v z g) = e := (packSw_bits c e p r3 a v z g).2.1
@[simp] theorem packSw_P (c e p r3 a v z g : Bool) : swP (packSw c e p r3 a v z g) = p := (packSw_bits c e p r3 a v z g).2.2.1
@[simp] theorem packSw_r3 (c e p r3 a v z g : Bool) : swR3 (packSw c e p r3 a v z g) = r3 :=
  (packSw_bits c e p r3 a v z g).2.2.2.1
@[simp] theorem packSw_A (c e p r3 a v z g : Bool) : swA (packSw c e p r3 a v z g) = a :=
  (packSw_bits c e p r3 a v z g).2.2.2.2.1
@[simp] theorem packSw_V (c e p r3 a v z g : Bool) : swV (packSw c e p r3 a v z g) = v :=
  (packSw_bits c e p r3 a v z g).2.2.2.2.2.1
@[simp] theorem packSw_Z (c e p r3 a v z g : Bool) : swZ (packSw c e p r3 a v z g) = z :=
  (packSw_bits c e p r3 a v z g).2.2.2.2.2.2.1
@[simp] theorem packSw_S (c e p r3 a v z g : Bool) : swS (packSw c e p r3 a v z g) = g :=
  (packSw_bits c e p r3 a v z g).2.2.2.2.2.2.2

/-- A unit's flag result keeps `E` and the reserved bit (spec/45_alu.md R190). -/
@[simp] theorem flagsOf_E (sw : Byte) (c a v : Bool) (r : Byte) : swE (flagsOf sw c a v r) = swE sw := by simp [flagsOf]
@[simp] theorem flagsOf_r3 (sw : Byte) (c a v : Bool) (r : Byte) : swR3 (flagsOf sw c a v r) = swR3 sw := by simp [flagsOf]
@[simp] theorem flagsOf_C (sw : Byte) (c a v : Bool) (r : Byte) : swC (flagsOf sw c a v r) = c := by simp [flagsOf]
@[simp] theorem flagsOf_A (sw : Byte) (c a v : Bool) (r : Byte) : swA (flagsOf sw c a v r) = a := by simp [flagsOf]
@[simp] theorem flagsOf_V (sw : Byte) (c a v : Bool) (r : Byte) : swV (flagsOf sw c a v r) = v := by simp [flagsOf]
@[simp] theorem flagsOf_P (sw : Byte) (c a v : Bool) (r : Byte) : swP (flagsOf sw c a v r) = parityOf r := by simp [flagsOf]
@[simp] theorem flagsOf_Z (sw : Byte) (c a v : Bool) (r : Byte) : swZ (flagsOf sw c a v r) = (r == 0) := by simp [flagsOf]
@[simp] theorem flagsOf_S (sw : Byte) (c a v : Bool) (r : Byte) : swS (flagsOf sw c a v r) = r.getLsbD 7 := by simp [flagsOf]

/-- Two status words with the same flags are equal. -/
theorem sw_ext (x y : Byte) (hC : swC x = swC y) (hE : swE x = swE y) (hP : swP x = swP y) (h3 : swR3 x = swR3 y)
    (hA : swA x = swA y) (hV : swV x = swV y) (hZ : swZ x = swZ y) (hS : swS x = swS y) : x = y := by
  apply BitVec.eq_of_getLsbD_eq
  intro i hi
  interval_cases i <;> assumption

/-- Setting `E` leaves the other seven bits (spec/60_exceptions.md R270). -/
theorem setErr_bits (sw : Byte) :
    swE (setErr sw) = true ∧ swC (setErr sw) = swC sw ∧ swP (setErr sw) = swP sw ∧ swR3 (setErr sw) = swR3 sw ∧
    swA (setErr sw) = swA sw ∧ swV (setErr sw) = swV sw ∧ swZ (setErr sw) = swZ sw ∧ swS (setErr sw) = swS sw := by
  revert sw; decide

/-- A shift by 0 is a copy that changes no flag (spec/46_shift_math.md R231). -/
@[simp] theorem shiftOut_zero (sw a r : Byte) (c : Bool) : shiftOut sw a 0 r c = ⟨a, sw⟩ := rfl

/-- A shift never changes `E` (spec/10_state.md R17). -/
theorem shiftOut_E (sw a : Byte) (n : Nat) (r : Byte) (c : Bool) : swE (shiftOut sw a n r c).sw = swE sw := by
  unfold shiftOut; split <;> simp

/-- A shift never changes the reserved bit (R17). -/
theorem shiftOut_r3 (sw a : Byte) (n : Nat) (r : Byte) (c : Bool) : swR3 (shiftOut sw a n r c).sw = swR3 sw := by
  unfold shiftOut; split <;> simp

end Sys2Proof.Laws
end

