-- ==== Sys2Proof/Laws/Units.lean ====
section
/-! SUPPORT. What the shared forms of the ALU, shift, math and internal-register instructions do: each touches the general registers
and the status word alone (a division by zero also counts its draw), and what it leaves in them. -/

namespace Sys2Proof.Laws

open Sys2Proof.Machine

/-- The second operand of a three-register form: 0 when register 0 has just been read as the first (spec/10_state.md R15). -/
def secondOperand (s : State) (y z : RegIx) : Byte := if y = 0 ∧ z = 0 then 0 else s.reg z

theorem readReg_then_reg (s : State) (y z : RegIx) : (s.readReg y).st.reg z = secondOperand s y z := reg_readReg s y z

/-- What a normal write after operand reads leaves in every register. -/
theorem reg_after (s t : State) (x : RegIx) (v : Byte) (used : Prop) [Decidable used] (j : RegIx)
    (h : ∀ j, t.reg j = if used ∧ j = 0 then 0 else s.reg j) :
    (t.writeReg x v).reg j = if j = x ∧ x ≠ 0 then v else if used ∧ j = 0 then 0 else s.reg j := by
  rw [reg_writeReg, h]

/-- The three-register form in one line: the two reads, the status word, the normal write (spec/45_alu.md R199). -/
theorem aluOp_eq (s : State) (x y z : RegIx) (u : Byte → Byte → Byte → UnitOut) :
    s.aluOp x y z u =
      State.writeReg { ((s.readReg y).st.readReg z).st with sw := (u s.sw (s.reg y) (secondOperand s y z)).sw } x
        (u s.sw (s.reg y) (secondOperand s y z)).r := by
  rw [← readReg_then_reg]; rfl

/-- The three-register form touches the registers and the status word alone (spec/45_alu.md R199). -/
theorem aluOp_frame (s : State) (x y z : RegIx) (u : Byte → Byte → Byte → UnitOut) :
    s.aluOp x y z u = { s with regs := (s.aluOp x y z u).regs, sw := (u s.sw (s.reg y) (secondOperand s y z)).sw } := by
  rw [aluOp_eq]
  simp only [writeReg_eq, readReg_st]

theorem aluOp_reg (s : State) (x y z : RegIx) (u : Byte → Byte → Byte → UnitOut) (j : RegIx) :
    (s.aluOp x y z u).reg j =
      if j = x ∧ x ≠ 0 then (u s.sw (s.reg y) (secondOperand s y z)).r
      else if (y = 0 ∨ z = 0) ∧ j = 0 then 0 else s.reg j := by
  rw [aluOp_eq, reg_writeReg]
  split
  · rfl
  · show ((s.readReg y).st.readReg z).st.reg j = _
    rw [reg_readReg, reg_readReg]
    by_cases hz : z = 0 <;> by_cases hy : y = 0 <;> by_cases hj : j = 0 <;> simp only [hz, hy, hj] <;> simp

/-- The immediate ALU form touches the registers and the status word alone (spec/44_move_imm.md R174). -/
theorem immOp_frame (s : State) (x : RegIx) (u : Byte → Byte → UnitOut) :
    s.immOp x u = { s with regs := (s.immOp x u).regs, sw := (u s.sw (s.reg x)).sw } := by
  simp only [State.immOp, readReg_val, writeReg_eq, readReg_st]

theorem immOp_reg (s : State) (x : RegIx) (u : Byte → Byte → UnitOut) (j : RegIx) :
    (s.immOp x u).reg j =
      if j = x ∧ x ≠ 0 then (u s.sw (s.reg x)).r else if x = 0 ∧ j = 0 then 0 else s.reg j := by
  simp only [State.immOp, readReg_val, reg_writeReg]
  split
  · rfl
  · exact reg_readReg s x j

theorem immTest_frame (s : State) (x : RegIx) (u : Byte → Byte → UnitOut) :
    s.immTest x u = { s with regs := (s.immTest x u).regs, sw := (u s.sw (s.reg x)).sw } := by
  simp only [State.immTest, readReg_val, readReg_st]

theorem immTest_reg (s : State) (x : RegIx) (u : Byte → Byte → UnitOut) (j : RegIx) :
    (s.immTest x u).reg j = if x = 0 ∧ j = 0 then 0 else s.reg j := reg_readReg s x j

/-- The form with one source register touches the registers and the status word alone (spec/46_shift_math.md R245 to R247). -/
theorem unaryOp_frame (s : State) (x y : RegIx) (u : Byte → Byte → UnitOut) :
    s.unaryOp x y u = { s with regs := (s.unaryOp x y u).regs, sw := (u s.sw (s.reg y)).sw } := by
  simp only [State.unaryOp, readReg_val, writeReg_eq, readReg_st]

theorem unaryOp_reg (s : State) (x y : RegIx) (u : Byte → Byte → UnitOut) (j : RegIx) :
    (s.unaryOp x y u).reg j =
      if j = x ∧ x ≠ 0 then (u s.sw (s.reg y)).r else if y = 0 ∧ j = 0 then 0 else s.reg j := by
  simp only [State.unaryOp, readReg_val, reg_writeReg]
  split
  · rfl
  · exact reg_readReg s y j

/-- A shift by register raises DomainFault after its operand reads, or is the shift by the amount read (R244, R245). -/
theorem shiftByReg_cases (s : State) (x y z : RegIx) (u : Byte → Byte → Nat → UnitOut) :
    (7 < (secondOperand s y z).toNat ∧
      s.shiftByReg x y z u = ((s.readReg y).st.readReg z).st.raiseDomainFault) ∨
    ((secondOperand s y z).toNat ≤ 7 ∧
      s.shiftByReg x y z u = s.aluOp x y z fun sw a n => u sw a n.toNat) := by
  unfold State.shiftByReg
  simp only [readReg_val, readReg_then_reg]
  by_cases h : 7 < (secondOperand s y z).toNat
  · exact .inl ⟨h, by rw [if_pos h]⟩
  · exact .inr ⟨by omega, by rw [if_neg h, aluOp_eq]⟩

/-- A division by zero touches the registers, the status word and the count of draws alone (R251). -/
theorem divByZero_frame (s : State) (x y : RegIx) :
    s.divByZero x y = { s with regs := (s.divByZero x y).regs, sw := (s.divByZero x y).sw, draws := s.draws + 1 } := by
  simp only [State.divByZero, writeReg_eq, readReg_st]

theorem divByZero_reg (s : State) (x y : RegIx) (j : RegIx) :
    (s.divByZero x y).reg j =
      if j = x ∧ x ≠ 0 then Config.div0Result s.draws else if y = 0 ∧ j = 0 then 0 else s.reg j := by
  simp only [State.divByZero, reg_writeReg]
  split
  · rfl
  · exact reg_readReg s y j

/-- A division by zero sets `E` and keeps the reserved bit (R251). -/
theorem divByZero_sw (s : State) (x y : RegIx) :
    swE (s.divByZero x y).sw = true ∧ swR3 (s.divByZero x y).sw = swR3 s.sw := by
  simp [State.divByZero, writeReg_eq, div0Sw]

/-- A store to an internal register touches that register alone (spec/42_port_internal.md R143). -/
theorem setInternal_frame (s : State) (k : BitVec 3) (v : Byte) :
    s.setInternal k v = { s with ap := (s.setInternal k v).ap, csp := (s.setInternal k v).csp, sw := (s.setInternal k v).sw,
                                 cw := (s.setInternal k v).cw, loopPtr := (s.setInternal k v).loopPtr,
                                 pc := (s.setInternal k v).pc } := by
  rcases regIx_cases k with h | h | h | h | h | h | h | h <;> subst h <;> rfl

/-- A port read touches the general registers not at all; of the rest, the input latches, the devices' calls and the count of draws
(spec/20_memory.md R60). -/
theorem portRead_frame (s : State) (p : Byte) :
    (s.portRead p).st = { s with inLatch := (s.portRead p).st.inLatch, deviceCalls := (s.portRead p).st.deviceCalls,
                                  draws := (s.portRead p).st.draws } := by
  unfold State.portRead
  split <;> rfl

/-- What a device's reply can do: leave the input latches alone, or write the latch of the port read (R60). -/
theorem replied_cases (s : State) (b : Binding) (p : Byte) :
    s.replied b p = s.inLatch ∨ ∃ v, s.replied b p = Memory.write s.inLatch p.toNat v := by
  unfold State.replied
  cases Config.deviceReply s.draws s.deviceCalls b.device (b.offset p) with
  | none => exact .inl rfl
  | some v => exact .inr ⟨v, rfl⟩

/-- A port write calls the write handler of a bound device and no other (R61). -/
theorem deviceWrite_cases (s : State) (p v : Byte) :
    (∃ b, s.deviceAt p = some b ∧ s.deviceWrite p v = .write b.device (b.offset p) v :: s.deviceCalls) ∨
    (s.deviceAt p = none ∧ s.deviceWrite p v = s.deviceCalls) := by
  unfold State.deviceWrite
  cases h : s.deviceAt p with
  | some b => exact .inl ⟨b, rfl, rfl⟩
  | none => exact .inr ⟨rfl, rfl⟩

end Sys2Proof.Laws
end

