-- ==== Sys2Proof/Laws/Fields.lean ====
section
/-! SUPPORT. The fields that the operations which update under a condition leave alone, one lemma per field: beside `Laws/State.lean`,
so that no proof unfolds these operations to see that. -/

namespace Sys2Proof.Laws

open Sys2Proof.Machine

variable (s : State)

/-- The interrupt check touches the call stack, the `pc` and the interrupt stacks, and nothing else (spec/60_exceptions.md R278). -/
theorem checkInterrupt_frame :
    s.checkInterrupt = { s with cs := s.checkInterrupt.cs, csp := s.checkInterrupt.csp, pc := s.checkInterrupt.pc,
                                pend := s.checkInterrupt.pend, act := s.checkInterrupt.act } := by
  rcases checkInterrupt_cases s with ⟨q, rest, -, -, -, h⟩ | ⟨h, -⟩
  · rw [h]; rfl
  · rw [h]

/-- A shift by register touches the general registers, the status word and `RUN`, and nothing else (spec/46_shift_math.md R245). -/
theorem shiftByReg_frame (x y z : RegIx) (u : Byte → Byte → Nat → UnitOut) :
    s.shiftByReg x y z u = { s with regs := (s.shiftByReg x y z u).regs, sw := (s.shiftByReg x y z u).sw,
                                    run := (s.shiftByReg x y z u).run } := by
  rcases shiftByReg_cases s x y z u with ⟨-, h⟩ | ⟨-, h⟩
  · rw [h]; simp only [State.raiseDomainFault, readReg_st]
  · rw [h]; generalize (fun sw a (n : Byte) => u sw a n.toNat) = w
    have := aluOp_frame s x y z w
    generalize s.aluOp x y z w = t at *
    rw [this]

/-- A push touches the status word, the stack pointer, the bank window and the pool, and nothing else (spec/43_stack_memory.md R151). -/
theorem push_frame (f : BitVec 3) (v : Byte) :
    s.push f v = { s with sw := (s.push f v).sw, vsp := (s.push f v).vsp, pool := (s.push f v).pool, bank := (s.push f v).bank,
                          page := (s.push f v).page, dirty := (s.push f v).dirty } := by
  rcases push_cases s f v with ⟨-, h⟩ | ⟨-, h⟩
  · rw [h]; rfl
  · rw [h, memWrite_frame]

/-- A poke touches the status word, the bank window and the pool, and nothing else (R151). -/
theorem poke_frame (f : BitVec 3) (v : Byte) :
    s.poke f v = { s with sw := (s.poke f v).sw, pool := (s.poke f v).pool, bank := (s.poke f v).bank, page := (s.poke f v).page,
                          dirty := (s.poke f v).dirty } := by
  rcases poke_cases s f v with ⟨-, h⟩ | ⟨-, h⟩
  · rw [h]; rfl
  · rw [h, memWrite_frame]

/-! ## An operand read changes the general registers alone -/

@[simp] theorem readReg_sw (i : RegIx) : (s.readReg i).st.sw = s.sw := by rw [readReg_st s i]
@[simp] theorem readReg_cw (i : RegIx) : (s.readReg i).st.cw = s.cw := by rw [readReg_st s i]
@[simp] theorem readReg_pc (i : RegIx) : (s.readReg i).st.pc = s.pc := by rw [readReg_st s i]
@[simp] theorem readReg_cs (i : RegIx) : (s.readReg i).st.cs = s.cs := by rw [readReg_st s i]
@[simp] theorem readReg_csp (i : RegIx) : (s.readReg i).st.csp = s.csp := by rw [readReg_st s i]
@[simp] theorem readReg_ap (i : RegIx) : (s.readReg i).st.ap = s.ap := by rw [readReg_st s i]
@[simp] theorem readReg_loopStart (i : RegIx) : (s.readReg i).st.loopStart = s.loopStart := by rw [readReg_st s i]
@[simp] theorem readReg_loopEnd (i : RegIx) : (s.readReg i).st.loopEnd = s.loopEnd := by rw [readReg_st s i]
@[simp] theorem readReg_loopCount (i : RegIx) : (s.readReg i).st.loopCount = s.loopCount := by rw [readReg_st s i]
@[simp] theorem readReg_loopPtr (i : RegIx) : (s.readReg i).st.loopPtr = s.loopPtr := by rw [readReg_st s i]
@[simp] theorem readReg_vsp (i : RegIx) : (s.readReg i).st.vsp = s.vsp := by rw [readReg_st s i]
@[simp] theorem readReg_pool (i : RegIx) : (s.readReg i).st.pool = s.pool := by rw [readReg_st s i]
@[simp] theorem readReg_bank (i : RegIx) : (s.readReg i).st.bank = s.bank := by rw [readReg_st s i]
@[simp] theorem readReg_page (i : RegIx) : (s.readReg i).st.page = s.page := by rw [readReg_st s i]
@[simp] theorem readReg_dirty (i : RegIx) : (s.readReg i).st.dirty = s.dirty := by rw [readReg_st s i]
@[simp] theorem readReg_ipool (i : RegIx) : (s.readReg i).st.ipool = s.ipool := by rw [readReg_st s i]
@[simp] theorem readReg_icache (i : RegIx) : (s.readReg i).st.icache = s.icache := by rw [readReg_st s i]
@[simp] theorem readReg_ipage (i : RegIx) : (s.readReg i).st.ipage = s.ipage := by rw [readReg_st s i]
@[simp] theorem readReg_outLatch (i : RegIx) : (s.readReg i).st.outLatch = s.outLatch := by rw [readReg_st s i]
@[simp] theorem readReg_inLatch (i : RegIx) : (s.readReg i).st.inLatch = s.inLatch := by rw [readReg_st s i]
@[simp] theorem readReg_vt (i : RegIx) : (s.readReg i).st.vt = s.vt := by rw [readReg_st s i]
@[simp] theorem readReg_mask (i : RegIx) : (s.readReg i).st.mask = s.mask := by rw [readReg_st s i]
@[simp] theorem readReg_pend (i : RegIx) : (s.readReg i).st.pend = s.pend := by rw [readReg_st s i]
@[simp] theorem readReg_act (i : RegIx) : (s.readReg i).st.act = s.act := by rw [readReg_st s i]
@[simp] theorem readReg_run (i : RegIx) : (s.readReg i).st.run = s.run := by rw [readReg_st s i]
@[simp] theorem readReg_devices (i : RegIx) : (s.readReg i).st.devices = s.devices := by rw [readReg_st s i]
@[simp] theorem readReg_deviceCalls (i : RegIx) : (s.readReg i).st.deviceCalls = s.deviceCalls := by rw [readReg_st s i]
@[simp] theorem readReg_inputs (i : RegIx) : (s.readReg i).st.inputs = s.inputs := by rw [readReg_st s i]
@[simp] theorem readReg_draws (i : RegIx) : (s.readReg i).st.draws = s.draws := by rw [readReg_st s i]

/-! ## A normal write changes the general registers alone -/

@[simp] theorem writeReg_sw (i : RegIx) (v : Byte) : (s.writeReg i v).sw = s.sw := by rw [writeReg_eq s i v]
@[simp] theorem writeReg_cw (i : RegIx) (v : Byte) : (s.writeReg i v).cw = s.cw := by rw [writeReg_eq s i v]
@[simp] theorem writeReg_pc (i : RegIx) (v : Byte) : (s.writeReg i v).pc = s.pc := by rw [writeReg_eq s i v]
@[simp] theorem writeReg_cs (i : RegIx) (v : Byte) : (s.writeReg i v).cs = s.cs := by rw [writeReg_eq s i v]
@[simp] theorem writeReg_csp (i : RegIx) (v : Byte) : (s.writeReg i v).csp = s.csp := by rw [writeReg_eq s i v]
@[simp] theorem writeReg_ap (i : RegIx) (v : Byte) : (s.writeReg i v).ap = s.ap := by rw [writeReg_eq s i v]
@[simp] theorem writeReg_loopStart (i : RegIx) (v : Byte) : (s.writeReg i v).loopStart = s.loopStart := by rw [writeReg_eq s i v]
@[simp] theorem writeReg_loopEnd (i : RegIx) (v : Byte) : (s.writeReg i v).loopEnd = s.loopEnd := by rw [writeReg_eq s i v]
@[simp] theorem writeReg_loopCount (i : RegIx) (v : Byte) : (s.writeReg i v).loopCount = s.loopCount := by rw [writeReg_eq s i v]
@[simp] theorem writeReg_loopPtr (i : RegIx) (v : Byte) : (s.writeReg i v).loopPtr = s.loopPtr := by rw [writeReg_eq s i v]
@[simp] theorem writeReg_vsp (i : RegIx) (v : Byte) : (s.writeReg i v).vsp = s.vsp := by rw [writeReg_eq s i v]
@[simp] theorem writeReg_pool (i : RegIx) (v : Byte) : (s.writeReg i v).pool = s.pool := by rw [writeReg_eq s i v]
@[simp] theorem writeReg_bank (i : RegIx) (v : Byte) : (s.writeReg i v).bank = s.bank := by rw [writeReg_eq s i v]
@[simp] theorem writeReg_page (i : RegIx) (v : Byte) : (s.writeReg i v).page = s.page := by rw [writeReg_eq s i v]
@[simp] theorem writeReg_dirty (i : RegIx) (v : Byte) : (s.writeReg i v).dirty = s.dirty := by rw [writeReg_eq s i v]
@[simp] theorem writeReg_ipool (i : RegIx) (v : Byte) : (s.writeReg i v).ipool = s.ipool := by rw [writeReg_eq s i v]
@[simp] theorem writeReg_icache (i : RegIx) (v : Byte) : (s.writeReg i v).icache = s.icache := by rw [writeReg_eq s i v]
@[simp] theorem writeReg_ipage (i : RegIx) (v : Byte) : (s.writeReg i v).ipage = s.ipage := by rw [writeReg_eq s i v]
@[simp] theorem writeReg_outLatch (i : RegIx) (v : Byte) : (s.writeReg i v).outLatch = s.outLatch := by rw [writeReg_eq s i v]
@[simp] theorem writeReg_inLatch (i : RegIx) (v : Byte) : (s.writeReg i v).inLatch = s.inLatch := by rw [writeReg_eq s i v]
@[simp] theorem writeReg_vt (i : RegIx) (v : Byte) : (s.writeReg i v).vt = s.vt := by rw [writeReg_eq s i v]
@[simp] theorem writeReg_mask (i : RegIx) (v : Byte) : (s.writeReg i v).mask = s.mask := by rw [writeReg_eq s i v]
@[simp] theorem writeReg_pend (i : RegIx) (v : Byte) : (s.writeReg i v).pend = s.pend := by rw [writeReg_eq s i v]
@[simp] theorem writeReg_act (i : RegIx) (v : Byte) : (s.writeReg i v).act = s.act := by rw [writeReg_eq s i v]
@[simp] theorem writeReg_run (i : RegIx) (v : Byte) : (s.writeReg i v).run = s.run := by rw [writeReg_eq s i v]
@[simp] theorem writeReg_devices (i : RegIx) (v : Byte) : (s.writeReg i v).devices = s.devices := by rw [writeReg_eq s i v]
@[simp] theorem writeReg_deviceCalls (i : RegIx) (v : Byte) : (s.writeReg i v).deviceCalls = s.deviceCalls := by rw [writeReg_eq s i v]
@[simp] theorem writeReg_inputs (i : RegIx) (v : Byte) : (s.writeReg i v).inputs = s.inputs := by rw [writeReg_eq s i v]
@[simp] theorem writeReg_draws (i : RegIx) (v : Byte) : (s.writeReg i v).draws = s.draws := by rw [writeReg_eq s i v]

/-! ## A page switch changes the bank window and the pool alone -/

@[simp] theorem setPage_regs (p : Byte) : (s.setPage p).regs = s.regs := by rw [setPage_frame s p]
@[simp] theorem setPage_sw (p : Byte) : (s.setPage p).sw = s.sw := by rw [setPage_frame s p]
@[simp] theorem setPage_cw (p : Byte) : (s.setPage p).cw = s.cw := by rw [setPage_frame s p]
@[simp] theorem setPage_pc (p : Byte) : (s.setPage p).pc = s.pc := by rw [setPage_frame s p]
@[simp] theorem setPage_cs (p : Byte) : (s.setPage p).cs = s.cs := by rw [setPage_frame s p]
@[simp] theorem setPage_csp (p : Byte) : (s.setPage p).csp = s.csp := by rw [setPage_frame s p]
@[simp] theorem setPage_ap (p : Byte) : (s.setPage p).ap = s.ap := by rw [setPage_frame s p]
@[simp] theorem setPage_loopStart (p : Byte) : (s.setPage p).loopStart = s.loopStart := by rw [setPage_frame s p]
@[simp] theorem setPage_loopEnd (p : Byte) : (s.setPage p).loopEnd = s.loopEnd := by rw [setPage_frame s p]
@[simp] theorem setPage_loopCount (p : Byte) : (s.setPage p).loopCount = s.loopCount := by rw [setPage_frame s p]
@[simp] theorem setPage_loopPtr (p : Byte) : (s.setPage p).loopPtr = s.loopPtr := by rw [setPage_frame s p]
@[simp] theorem setPage_vsp (p : Byte) : (s.setPage p).vsp = s.vsp := by rw [setPage_frame s p]
@[simp] theorem setPage_ipool (p : Byte) : (s.setPage p).ipool = s.ipool := by rw [setPage_frame s p]
@[simp] theorem setPage_icache (p : Byte) : (s.setPage p).icache = s.icache := by rw [setPage_frame s p]
@[simp] theorem setPage_ipage (p : Byte) : (s.setPage p).ipage = s.ipage := by rw [setPage_frame s p]
@[simp] theorem setPage_outLatch (p : Byte) : (s.setPage p).outLatch = s.outLatch := by rw [setPage_frame s p]
@[simp] theorem setPage_inLatch (p : Byte) : (s.setPage p).inLatch = s.inLatch := by rw [setPage_frame s p]
@[simp] theorem setPage_vt (p : Byte) : (s.setPage p).vt = s.vt := by rw [setPage_frame s p]
@[simp] theorem setPage_mask (p : Byte) : (s.setPage p).mask = s.mask := by rw [setPage_frame s p]
@[simp] theorem setPage_pend (p : Byte) : (s.setPage p).pend = s.pend := by rw [setPage_frame s p]
@[simp] theorem setPage_act (p : Byte) : (s.setPage p).act = s.act := by rw [setPage_frame s p]
@[simp] theorem setPage_run (p : Byte) : (s.setPage p).run = s.run := by rw [setPage_frame s p]
@[simp] theorem setPage_devices (p : Byte) : (s.setPage p).devices = s.devices := by rw [setPage_frame s p]
@[simp] theorem setPage_deviceCalls (p : Byte) : (s.setPage p).deviceCalls = s.deviceCalls := by rw [setPage_frame s p]
@[simp] theorem setPage_inputs (p : Byte) : (s.setPage p).inputs = s.inputs := by rw [setPage_frame s p]
@[simp] theorem setPage_draws (p : Byte) : (s.setPage p).draws = s.draws := by rw [setPage_frame s p]

/-! ## A banked write changes the bank window and the pool alone -/

@[simp] theorem memWrite_regs (a : Word) (v : Byte) : (s.memWrite a v).regs = s.regs := by rw [memWrite_frame s a v]
@[simp] theorem memWrite_sw (a : Word) (v : Byte) : (s.memWrite a v).sw = s.sw := by rw [memWrite_frame s a v]
@[simp] theorem memWrite_cw (a : Word) (v : Byte) : (s.memWrite a v).cw = s.cw := by rw [memWrite_frame s a v]
@[simp] theorem memWrite_pc (a : Word) (v : Byte) : (s.memWrite a v).pc = s.pc := by rw [memWrite_frame s a v]
@[simp] theorem memWrite_cs (a : Word) (v : Byte) : (s.memWrite a v).cs = s.cs := by rw [memWrite_frame s a v]
@[simp] theorem memWrite_csp (a : Word) (v : Byte) : (s.memWrite a v).csp = s.csp := by rw [memWrite_frame s a v]
@[simp] theorem memWrite_ap (a : Word) (v : Byte) : (s.memWrite a v).ap = s.ap := by rw [memWrite_frame s a v]
@[simp] theorem memWrite_loopStart (a : Word) (v : Byte) : (s.memWrite a v).loopStart = s.loopStart := by rw [memWrite_frame s a v]
@[simp] theorem memWrite_loopEnd (a : Word) (v : Byte) : (s.memWrite a v).loopEnd = s.loopEnd := by rw [memWrite_frame s a v]
@[simp] theorem memWrite_loopCount (a : Word) (v : Byte) : (s.memWrite a v).loopCount = s.loopCount := by rw [memWrite_frame s a v]
@[simp] theorem memWrite_loopPtr (a : Word) (v : Byte) : (s.memWrite a v).loopPtr = s.loopPtr := by rw [memWrite_frame s a v]
@[simp] theorem memWrite_vsp (a : Word) (v : Byte) : (s.memWrite a v).vsp = s.vsp := by rw [memWrite_frame s a v]
@[simp] theorem memWrite_ipool (a : Word) (v : Byte) : (s.memWrite a v).ipool = s.ipool := by rw [memWrite_frame s a v]
@[simp] theorem memWrite_icache (a : Word) (v : Byte) : (s.memWrite a v).icache = s.icache := by rw [memWrite_frame s a v]
@[simp] theorem memWrite_ipage (a : Word) (v : Byte) : (s.memWrite a v).ipage = s.ipage := by rw [memWrite_frame s a v]
@[simp] theorem memWrite_outLatch (a : Word) (v : Byte) : (s.memWrite a v).outLatch = s.outLatch := by rw [memWrite_frame s a v]
@[simp] theorem memWrite_inLatch (a : Word) (v : Byte) : (s.memWrite a v).inLatch = s.inLatch := by rw [memWrite_frame s a v]
@[simp] theorem memWrite_vt (a : Word) (v : Byte) : (s.memWrite a v).vt = s.vt := by rw [memWrite_frame s a v]
@[simp] theorem memWrite_mask (a : Word) (v : Byte) : (s.memWrite a v).mask = s.mask := by rw [memWrite_frame s a v]
@[simp] theorem memWrite_pend (a : Word) (v : Byte) : (s.memWrite a v).pend = s.pend := by rw [memWrite_frame s a v]
@[simp] theorem memWrite_act (a : Word) (v : Byte) : (s.memWrite a v).act = s.act := by rw [memWrite_frame s a v]
@[simp] theorem memWrite_run (a : Word) (v : Byte) : (s.memWrite a v).run = s.run := by rw [memWrite_frame s a v]
@[simp] theorem memWrite_devices (a : Word) (v : Byte) : (s.memWrite a v).devices = s.devices := by rw [memWrite_frame s a v]
@[simp] theorem memWrite_deviceCalls (a : Word) (v : Byte) : (s.memWrite a v).deviceCalls = s.deviceCalls := by rw [memWrite_frame s a v]
@[simp] theorem memWrite_inputs (a : Word) (v : Byte) : (s.memWrite a v).inputs = s.inputs := by rw [memWrite_frame s a v]
@[simp] theorem memWrite_draws (a : Word) (v : Byte) : (s.memWrite a v).draws = s.draws := by rw [memWrite_frame s a v]

/-! ## A fetch changes the instruction cache alone -/

@[simp] theorem loadInstrPage_regs (a : Word) : (s.loadInstrPage a).regs = s.regs := by rw [loadInstrPage_frame s a]
@[simp] theorem loadInstrPage_sw (a : Word) : (s.loadInstrPage a).sw = s.sw := by rw [loadInstrPage_frame s a]
@[simp] theorem loadInstrPage_cw (a : Word) : (s.loadInstrPage a).cw = s.cw := by rw [loadInstrPage_frame s a]
@[simp] theorem loadInstrPage_pc (a : Word) : (s.loadInstrPage a).pc = s.pc := by rw [loadInstrPage_frame s a]
@[simp] theorem loadInstrPage_cs (a : Word) : (s.loadInstrPage a).cs = s.cs := by rw [loadInstrPage_frame s a]
@[simp] theorem loadInstrPage_csp (a : Word) : (s.loadInstrPage a).csp = s.csp := by rw [loadInstrPage_frame s a]
@[simp] theorem loadInstrPage_ap (a : Word) : (s.loadInstrPage a).ap = s.ap := by rw [loadInstrPage_frame s a]
@[simp] theorem loadInstrPage_loopStart (a : Word) : (s.loadInstrPage a).loopStart = s.loopStart := by rw [loadInstrPage_frame s a]
@[simp] theorem loadInstrPage_loopEnd (a : Word) : (s.loadInstrPage a).loopEnd = s.loopEnd := by rw [loadInstrPage_frame s a]
@[simp] theorem loadInstrPage_loopCount (a : Word) : (s.loadInstrPage a).loopCount = s.loopCount := by rw [loadInstrPage_frame s a]
@[simp] theorem loadInstrPage_loopPtr (a : Word) : (s.loadInstrPage a).loopPtr = s.loopPtr := by rw [loadInstrPage_frame s a]
@[simp] theorem loadInstrPage_vsp (a : Word) : (s.loadInstrPage a).vsp = s.vsp := by rw [loadInstrPage_frame s a]
@[simp] theorem loadInstrPage_pool (a : Word) : (s.loadInstrPage a).pool = s.pool := by rw [loadInstrPage_frame s a]
@[simp] theorem loadInstrPage_bank (a : Word) : (s.loadInstrPage a).bank = s.bank := by rw [loadInstrPage_frame s a]
@[simp] theorem loadInstrPage_page (a : Word) : (s.loadInstrPage a).page = s.page := by rw [loadInstrPage_frame s a]
@[simp] theorem loadInstrPage_dirty (a : Word) : (s.loadInstrPage a).dirty = s.dirty := by rw [loadInstrPage_frame s a]
@[simp] theorem loadInstrPage_ipool (a : Word) : (s.loadInstrPage a).ipool = s.ipool := by rw [loadInstrPage_frame s a]
@[simp] theorem loadInstrPage_outLatch (a : Word) : (s.loadInstrPage a).outLatch = s.outLatch := by rw [loadInstrPage_frame s a]
@[simp] theorem loadInstrPage_inLatch (a : Word) : (s.loadInstrPage a).inLatch = s.inLatch := by rw [loadInstrPage_frame s a]
@[simp] theorem loadInstrPage_vt (a : Word) : (s.loadInstrPage a).vt = s.vt := by rw [loadInstrPage_frame s a]
@[simp] theorem loadInstrPage_mask (a : Word) : (s.loadInstrPage a).mask = s.mask := by rw [loadInstrPage_frame s a]
@[simp] theorem loadInstrPage_pend (a : Word) : (s.loadInstrPage a).pend = s.pend := by rw [loadInstrPage_frame s a]
@[simp] theorem loadInstrPage_act (a : Word) : (s.loadInstrPage a).act = s.act := by rw [loadInstrPage_frame s a]
@[simp] theorem loadInstrPage_run (a : Word) : (s.loadInstrPage a).run = s.run := by rw [loadInstrPage_frame s a]
@[simp] theorem loadInstrPage_devices (a : Word) : (s.loadInstrPage a).devices = s.devices := by rw [loadInstrPage_frame s a]
@[simp] theorem loadInstrPage_deviceCalls (a : Word) : (s.loadInstrPage a).deviceCalls = s.deviceCalls := by rw [loadInstrPage_frame s a]
@[simp] theorem loadInstrPage_inputs (a : Word) : (s.loadInstrPage a).inputs = s.inputs := by rw [loadInstrPage_frame s a]
@[simp] theorem loadInstrPage_draws (a : Word) : (s.loadInstrPage a).draws = s.draws := by rw [loadInstrPage_frame s a]

/-! ## The interrupt check changes the call stack, the pc and the interrupt stacks alone -/

@[simp] theorem checkInterrupt_regs : s.checkInterrupt.regs = s.regs := by rw [checkInterrupt_frame s]
@[simp] theorem checkInterrupt_sw : s.checkInterrupt.sw = s.sw := by rw [checkInterrupt_frame s]
@[simp] theorem checkInterrupt_cw : s.checkInterrupt.cw = s.cw := by rw [checkInterrupt_frame s]
@[simp] theorem checkInterrupt_ap : s.checkInterrupt.ap = s.ap := by rw [checkInterrupt_frame s]
@[simp] theorem checkInterrupt_loopStart : s.checkInterrupt.loopStart = s.loopStart := by rw [checkInterrupt_frame s]
@[simp] theorem checkInterrupt_loopEnd : s.checkInterrupt.loopEnd = s.loopEnd := by rw [checkInterrupt_frame s]
@[simp] theorem checkInterrupt_loopCount : s.checkInterrupt.loopCount = s.loopCount := by rw [checkInterrupt_frame s]
@[simp] theorem checkInterrupt_loopPtr : s.checkInterrupt.loopPtr = s.loopPtr := by rw [checkInterrupt_frame s]
@[simp] theorem checkInterrupt_vsp : s.checkInterrupt.vsp = s.vsp := by rw [checkInterrupt_frame s]
@[simp] theorem checkInterrupt_pool : s.checkInterrupt.pool = s.pool := by rw [checkInterrupt_frame s]
@[simp] theorem checkInterrupt_bank : s.checkInterrupt.bank = s.bank := by rw [checkInterrupt_frame s]
@[simp] theorem checkInterrupt_page : s.checkInterrupt.page = s.page := by rw [checkInterrupt_frame s]
@[simp] theorem checkInterrupt_dirty : s.checkInterrupt.dirty = s.dirty := by rw [checkInterrupt_frame s]
@[simp] theorem checkInterrupt_ipool : s.checkInterrupt.ipool = s.ipool := by rw [checkInterrupt_frame s]
@[simp] theorem checkInterrupt_icache : s.checkInterrupt.icache = s.icache := by rw [checkInterrupt_frame s]
@[simp] theorem checkInterrupt_ipage : s.checkInterrupt.ipage = s.ipage := by rw [checkInterrupt_frame s]
@[simp] theorem checkInterrupt_outLatch : s.checkInterrupt.outLatch = s.outLatch := by rw [checkInterrupt_frame s]
@[simp] theorem checkInterrupt_inLatch : s.checkInterrupt.inLatch = s.inLatch := by rw [checkInterrupt_frame s]
@[simp] theorem checkInterrupt_vt : s.checkInterrupt.vt = s.vt := by rw [checkInterrupt_frame s]
@[simp] theorem checkInterrupt_mask : s.checkInterrupt.mask = s.mask := by rw [checkInterrupt_frame s]
@[simp] theorem checkInterrupt_run : s.checkInterrupt.run = s.run := by rw [checkInterrupt_frame s]
@[simp] theorem checkInterrupt_devices : s.checkInterrupt.devices = s.devices := by rw [checkInterrupt_frame s]
@[simp] theorem checkInterrupt_deviceCalls : s.checkInterrupt.deviceCalls = s.deviceCalls := by rw [checkInterrupt_frame s]
@[simp] theorem checkInterrupt_inputs : s.checkInterrupt.inputs = s.inputs := by rw [checkInterrupt_frame s]
@[simp] theorem checkInterrupt_draws : s.checkInterrupt.draws = s.draws := by rw [checkInterrupt_frame s]

/-! ## The environment changes the interrupt stacks, the input latches, RUN and the list of inputs alone -/

@[simp] theorem takeInputs_regs : s.takeInputs.regs = s.regs := by rw [takeInputs_frame s]
@[simp] theorem takeInputs_sw : s.takeInputs.sw = s.sw := by rw [takeInputs_frame s]
@[simp] theorem takeInputs_cw : s.takeInputs.cw = s.cw := by rw [takeInputs_frame s]
@[simp] theorem takeInputs_pc : s.takeInputs.pc = s.pc := by rw [takeInputs_frame s]
@[simp] theorem takeInputs_cs : s.takeInputs.cs = s.cs := by rw [takeInputs_frame s]
@[simp] theorem takeInputs_csp : s.takeInputs.csp = s.csp := by rw [takeInputs_frame s]
@[simp] theorem takeInputs_ap : s.takeInputs.ap = s.ap := by rw [takeInputs_frame s]
@[simp] theorem takeInputs_loopStart : s.takeInputs.loopStart = s.loopStart := by rw [takeInputs_frame s]
@[simp] theorem takeInputs_loopEnd : s.takeInputs.loopEnd = s.loopEnd := by rw [takeInputs_frame s]
@[simp] theorem takeInputs_loopCount : s.takeInputs.loopCount = s.loopCount := by rw [takeInputs_frame s]
@[simp] theorem takeInputs_loopPtr : s.takeInputs.loopPtr = s.loopPtr := by rw [takeInputs_frame s]
@[simp] theorem takeInputs_vsp : s.takeInputs.vsp = s.vsp := by rw [takeInputs_frame s]
@[simp] theorem takeInputs_pool : s.takeInputs.pool = s.pool := by rw [takeInputs_frame s]
@[simp] theorem takeInputs_bank : s.takeInputs.bank = s.bank := by rw [takeInputs_frame s]
@[simp] theorem takeInputs_page : s.takeInputs.page = s.page := by rw [takeInputs_frame s]
@[simp] theorem takeInputs_dirty : s.takeInputs.dirty = s.dirty := by rw [takeInputs_frame s]
@[simp] theorem takeInputs_ipool : s.takeInputs.ipool = s.ipool := by rw [takeInputs_frame s]
@[simp] theorem takeInputs_icache : s.takeInputs.icache = s.icache := by rw [takeInputs_frame s]
@[simp] theorem takeInputs_ipage : s.takeInputs.ipage = s.ipage := by rw [takeInputs_frame s]
@[simp] theorem takeInputs_outLatch : s.takeInputs.outLatch = s.outLatch := by rw [takeInputs_frame s]
@[simp] theorem takeInputs_vt : s.takeInputs.vt = s.vt := by rw [takeInputs_frame s]
@[simp] theorem takeInputs_mask : s.takeInputs.mask = s.mask := by rw [takeInputs_frame s]
@[simp] theorem takeInputs_devices : s.takeInputs.devices = s.devices := by rw [takeInputs_frame s]
@[simp] theorem takeInputs_deviceCalls : s.takeInputs.deviceCalls = s.deviceCalls := by rw [takeInputs_frame s]
@[simp] theorem takeInputs_draws : s.takeInputs.draws = s.draws := by rw [takeInputs_frame s]

/-! ## The three-register form changes registers and flags alone -/

@[simp] theorem aluOp_cw (x y z : RegIx) (u : Byte → Byte → Byte → UnitOut) :
    (s.aluOp x y z u).cw = s.cw := by rw [aluOp_frame s x y z u]
@[simp] theorem aluOp_pc (x y z : RegIx) (u : Byte → Byte → Byte → UnitOut) :
    (s.aluOp x y z u).pc = s.pc := by rw [aluOp_frame s x y z u]
@[simp] theorem aluOp_cs (x y z : RegIx) (u : Byte → Byte → Byte → UnitOut) :
    (s.aluOp x y z u).cs = s.cs := by rw [aluOp_frame s x y z u]
@[simp] theorem aluOp_csp (x y z : RegIx) (u : Byte → Byte → Byte → UnitOut) :
    (s.aluOp x y z u).csp = s.csp := by rw [aluOp_frame s x y z u]
@[simp] theorem aluOp_ap (x y z : RegIx) (u : Byte → Byte → Byte → UnitOut) :
    (s.aluOp x y z u).ap = s.ap := by rw [aluOp_frame s x y z u]
@[simp] theorem aluOp_loopStart (x y z : RegIx) (u : Byte → Byte → Byte → UnitOut) :
    (s.aluOp x y z u).loopStart = s.loopStart := by rw [aluOp_frame s x y z u]
@[simp] theorem aluOp_loopEnd (x y z : RegIx) (u : Byte → Byte → Byte → UnitOut) :
    (s.aluOp x y z u).loopEnd = s.loopEnd := by rw [aluOp_frame s x y z u]
@[simp] theorem aluOp_loopCount (x y z : RegIx) (u : Byte → Byte → Byte → UnitOut) :
    (s.aluOp x y z u).loopCount = s.loopCount := by rw [aluOp_frame s x y z u]
@[simp] theorem aluOp_loopPtr (x y z : RegIx) (u : Byte → Byte → Byte → UnitOut) :
    (s.aluOp x y z u).loopPtr = s.loopPtr := by rw [aluOp_frame s x y z u]
@[simp] theorem aluOp_vsp (x y z : RegIx) (u : Byte → Byte → Byte → UnitOut) :
    (s.aluOp x y z u).vsp = s.vsp := by rw [aluOp_frame s x y z u]
@[simp] theorem aluOp_pool (x y z : RegIx) (u : Byte → Byte → Byte → UnitOut) :
    (s.aluOp x y z u).pool = s.pool := by rw [aluOp_frame s x y z u]
@[simp] theorem aluOp_bank (x y z : RegIx) (u : Byte → Byte → Byte → UnitOut) :
    (s.aluOp x y z u).bank = s.bank := by rw [aluOp_frame s x y z u]
@[simp] theorem aluOp_page (x y z : RegIx) (u : Byte → Byte → Byte → UnitOut) :
    (s.aluOp x y z u).page = s.page := by rw [aluOp_frame s x y z u]
@[simp] theorem aluOp_dirty (x y z : RegIx) (u : Byte → Byte → Byte → UnitOut) :
    (s.aluOp x y z u).dirty = s.dirty := by rw [aluOp_frame s x y z u]
@[simp] theorem aluOp_ipool (x y z : RegIx) (u : Byte → Byte → Byte → UnitOut) :
    (s.aluOp x y z u).ipool = s.ipool := by rw [aluOp_frame s x y z u]
@[simp] theorem aluOp_icache (x y z : RegIx) (u : Byte → Byte → Byte → UnitOut) :
    (s.aluOp x y z u).icache = s.icache := by rw [aluOp_frame s x y z u]
@[simp] theorem aluOp_ipage (x y z : RegIx) (u : Byte → Byte → Byte → UnitOut) :
    (s.aluOp x y z u).ipage = s.ipage := by rw [aluOp_frame s x y z u]
@[simp] theorem aluOp_outLatch (x y z : RegIx) (u : Byte → Byte → Byte → UnitOut) :
    (s.aluOp x y z u).outLatch = s.outLatch := by rw [aluOp_frame s x y z u]
@[simp] theorem aluOp_inLatch (x y z : RegIx) (u : Byte → Byte → Byte → UnitOut) :
    (s.aluOp x y z u).inLatch = s.inLatch := by rw [aluOp_frame s x y z u]
@[simp] theorem aluOp_vt (x y z : RegIx) (u : Byte → Byte → Byte → UnitOut) :
    (s.aluOp x y z u).vt = s.vt := by rw [aluOp_frame s x y z u]
@[simp] theorem aluOp_mask (x y z : RegIx) (u : Byte → Byte → Byte → UnitOut) :
    (s.aluOp x y z u).mask = s.mask := by rw [aluOp_frame s x y z u]
@[simp] theorem aluOp_pend (x y z : RegIx) (u : Byte → Byte → Byte → UnitOut) :
    (s.aluOp x y z u).pend = s.pend := by rw [aluOp_frame s x y z u]
@[simp] theorem aluOp_act (x y z : RegIx) (u : Byte → Byte → Byte → UnitOut) :
    (s.aluOp x y z u).act = s.act := by rw [aluOp_frame s x y z u]
@[simp] theorem aluOp_run (x y z : RegIx) (u : Byte → Byte → Byte → UnitOut) :
    (s.aluOp x y z u).run = s.run := by rw [aluOp_frame s x y z u]
@[simp] theorem aluOp_devices (x y z : RegIx) (u : Byte → Byte → Byte → UnitOut) :
    (s.aluOp x y z u).devices = s.devices := by rw [aluOp_frame s x y z u]
@[simp] theorem aluOp_deviceCalls (x y z : RegIx) (u : Byte → Byte → Byte → UnitOut) :
    (s.aluOp x y z u).deviceCalls = s.deviceCalls := by rw [aluOp_frame s x y z u]
@[simp] theorem aluOp_inputs (x y z : RegIx) (u : Byte → Byte → Byte → UnitOut) :
    (s.aluOp x y z u).inputs = s.inputs := by rw [aluOp_frame s x y z u]
@[simp] theorem aluOp_draws (x y z : RegIx) (u : Byte → Byte → Byte → UnitOut) :
    (s.aluOp x y z u).draws = s.draws := by rw [aluOp_frame s x y z u]

/-! ## The immediate form changes registers and flags alone -/

@[simp] theorem immOp_cw (x : RegIx) (u : Byte → Byte → UnitOut) :
    (s.immOp x u).cw = s.cw := by rw [immOp_frame s x u]
@[simp] theorem immOp_pc (x : RegIx) (u : Byte → Byte → UnitOut) :
    (s.immOp x u).pc = s.pc := by rw [immOp_frame s x u]
@[simp] theorem immOp_cs (x : RegIx) (u : Byte → Byte → UnitOut) :
    (s.immOp x u).cs = s.cs := by rw [immOp_frame s x u]
@[simp] theorem immOp_csp (x : RegIx) (u : Byte → Byte → UnitOut) :
    (s.immOp x u).csp = s.csp := by rw [immOp_frame s x u]
@[simp] theorem immOp_ap (x : RegIx) (u : Byte → Byte → UnitOut) :
    (s.immOp x u).ap = s.ap := by rw [immOp_frame s x u]
@[simp] theorem immOp_loopStart (x : RegIx) (u : Byte → Byte → UnitOut) :
    (s.immOp x u).loopStart = s.loopStart := by rw [immOp_frame s x u]
@[simp] theorem immOp_loopEnd (x : RegIx) (u : Byte → Byte → UnitOut) :
    (s.immOp x u).loopEnd = s.loopEnd := by rw [immOp_frame s x u]
@[simp] theorem immOp_loopCount (x : RegIx) (u : Byte → Byte → UnitOut) :
    (s.immOp x u).loopCount = s.loopCount := by rw [immOp_frame s x u]
@[simp] theorem immOp_loopPtr (x : RegIx) (u : Byte → Byte → UnitOut) :
    (s.immOp x u).loopPtr = s.loopPtr := by rw [immOp_frame s x u]
@[simp] theorem immOp_vsp (x : RegIx) (u : Byte → Byte → UnitOut) :
    (s.immOp x u).vsp = s.vsp := by rw [immOp_frame s x u]
@[simp] theorem immOp_pool (x : RegIx) (u : Byte → Byte → UnitOut) :
    (s.immOp x u).pool = s.pool := by rw [immOp_frame s x u]
@[simp] theorem immOp_bank (x : RegIx) (u : Byte → Byte → UnitOut) :
    (s.immOp x u).bank = s.bank := by rw [immOp_frame s x u]
@[simp] theorem immOp_page (x : RegIx) (u : Byte → Byte → UnitOut) :
    (s.immOp x u).page = s.page := by rw [immOp_frame s x u]
@[simp] theorem immOp_dirty (x : RegIx) (u : Byte → Byte → UnitOut) :
    (s.immOp x u).dirty = s.dirty := by rw [immOp_frame s x u]
@[simp] theorem immOp_ipool (x : RegIx) (u : Byte → Byte → UnitOut) :
    (s.immOp x u).ipool = s.ipool := by rw [immOp_frame s x u]
@[simp] theorem immOp_icache (x : RegIx) (u : Byte → Byte → UnitOut) :
    (s.immOp x u).icache = s.icache := by rw [immOp_frame s x u]
@[simp] theorem immOp_ipage (x : RegIx) (u : Byte → Byte → UnitOut) :
    (s.immOp x u).ipage = s.ipage := by rw [immOp_frame s x u]
@[simp] theorem immOp_outLatch (x : RegIx) (u : Byte → Byte → UnitOut) :
    (s.immOp x u).outLatch = s.outLatch := by rw [immOp_frame s x u]
@[simp] theorem immOp_inLatch (x : RegIx) (u : Byte → Byte → UnitOut) :
    (s.immOp x u).inLatch = s.inLatch := by rw [immOp_frame s x u]
@[simp] theorem immOp_vt (x : RegIx) (u : Byte → Byte → UnitOut) :
    (s.immOp x u).vt = s.vt := by rw [immOp_frame s x u]
@[simp] theorem immOp_mask (x : RegIx) (u : Byte → Byte → UnitOut) :
    (s.immOp x u).mask = s.mask := by rw [immOp_frame s x u]
@[simp] theorem immOp_pend (x : RegIx) (u : Byte → Byte → UnitOut) :
    (s.immOp x u).pend = s.pend := by rw [immOp_frame s x u]
@[simp] theorem immOp_act (x : RegIx) (u : Byte → Byte → UnitOut) :
    (s.immOp x u).act = s.act := by rw [immOp_frame s x u]
@[simp] theorem immOp_run (x : RegIx) (u : Byte → Byte → UnitOut) :
    (s.immOp x u).run = s.run := by rw [immOp_frame s x u]
@[simp] theorem immOp_devices (x : RegIx) (u : Byte → Byte → UnitOut) :
    (s.immOp x u).devices = s.devices := by rw [immOp_frame s x u]
@[simp] theorem immOp_deviceCalls (x : RegIx) (u : Byte → Byte → UnitOut) :
    (s.immOp x u).deviceCalls = s.deviceCalls := by rw [immOp_frame s x u]
@[simp] theorem immOp_inputs (x : RegIx) (u : Byte → Byte → UnitOut) :
    (s.immOp x u).inputs = s.inputs := by rw [immOp_frame s x u]
@[simp] theorem immOp_draws (x : RegIx) (u : Byte → Byte → UnitOut) :
    (s.immOp x u).draws = s.draws := by rw [immOp_frame s x u]

/-! ## The immediate test changes registers and flags alone -/

@[simp] theorem immTest_cw (x : RegIx) (u : Byte → Byte → UnitOut) :
    (s.immTest x u).cw = s.cw := by rw [immTest_frame s x u]
@[simp] theorem immTest_pc (x : RegIx) (u : Byte → Byte → UnitOut) :
    (s.immTest x u).pc = s.pc := by rw [immTest_frame s x u]
@[simp] theorem immTest_cs (x : RegIx) (u : Byte → Byte → UnitOut) :
    (s.immTest x u).cs = s.cs := by rw [immTest_frame s x u]
@[simp] theorem immTest_csp (x : RegIx) (u : Byte → Byte → UnitOut) :
    (s.immTest x u).csp = s.csp := by rw [immTest_frame s x u]
@[simp] theorem immTest_ap (x : RegIx) (u : Byte → Byte → UnitOut) :
    (s.immTest x u).ap = s.ap := by rw [immTest_frame s x u]
@[simp] theorem immTest_loopStart (x : RegIx) (u : Byte → Byte → UnitOut) :
    (s.immTest x u).loopStart = s.loopStart := by rw [immTest_frame s x u]
@[simp] theorem immTest_loopEnd (x : RegIx) (u : Byte → Byte → UnitOut) :
    (s.immTest x u).loopEnd = s.loopEnd := by rw [immTest_frame s x u]
@[simp] theorem immTest_loopCount (x : RegIx) (u : Byte → Byte → UnitOut) :
    (s.immTest x u).loopCount = s.loopCount := by rw [immTest_frame s x u]
@[simp] theorem immTest_loopPtr (x : RegIx) (u : Byte → Byte → UnitOut) :
    (s.immTest x u).loopPtr = s.loopPtr := by rw [immTest_frame s x u]
@[simp] theorem immTest_vsp (x : RegIx) (u : Byte → Byte → UnitOut) :
    (s.immTest x u).vsp = s.vsp := by rw [immTest_frame s x u]
@[simp] theorem immTest_pool (x : RegIx) (u : Byte → Byte → UnitOut) :
    (s.immTest x u).pool = s.pool := by rw [immTest_frame s x u]
@[simp] theorem immTest_bank (x : RegIx) (u : Byte → Byte → UnitOut) :
    (s.immTest x u).bank = s.bank := by rw [immTest_frame s x u]
@[simp] theorem immTest_page (x : RegIx) (u : Byte → Byte → UnitOut) :
    (s.immTest x u).page = s.page := by rw [immTest_frame s x u]
@[simp] theorem immTest_dirty (x : RegIx) (u : Byte → Byte → UnitOut) :
    (s.immTest x u).dirty = s.dirty := by rw [immTest_frame s x u]
@[simp] theorem immTest_ipool (x : RegIx) (u : Byte → Byte → UnitOut) :
    (s.immTest x u).ipool = s.ipool := by rw [immTest_frame s x u]
@[simp] theorem immTest_icache (x : RegIx) (u : Byte → Byte → UnitOut) :
    (s.immTest x u).icache = s.icache := by rw [immTest_frame s x u]
@[simp] theorem immTest_ipage (x : RegIx) (u : Byte → Byte → UnitOut) :
    (s.immTest x u).ipage = s.ipage := by rw [immTest_frame s x u]
@[simp] theorem immTest_outLatch (x : RegIx) (u : Byte → Byte → UnitOut) :
    (s.immTest x u).outLatch = s.outLatch := by rw [immTest_frame s x u]
@[simp] theorem immTest_inLatch (x : RegIx) (u : Byte → Byte → UnitOut) :
    (s.immTest x u).inLatch = s.inLatch := by rw [immTest_frame s x u]
@[simp] theorem immTest_vt (x : RegIx) (u : Byte → Byte → UnitOut) :
    (s.immTest x u).vt = s.vt := by rw [immTest_frame s x u]
@[simp] theorem immTest_mask (x : RegIx) (u : Byte → Byte → UnitOut) :
    (s.immTest x u).mask = s.mask := by rw [immTest_frame s x u]
@[simp] theorem immTest_pend (x : RegIx) (u : Byte → Byte → UnitOut) :
    (s.immTest x u).pend = s.pend := by rw [immTest_frame s x u]
@[simp] theorem immTest_act (x : RegIx) (u : Byte → Byte → UnitOut) :
    (s.immTest x u).act = s.act := by rw [immTest_frame s x u]
@[simp] theorem immTest_run (x : RegIx) (u : Byte → Byte → UnitOut) :
    (s.immTest x u).run = s.run := by rw [immTest_frame s x u]
@[simp] theorem immTest_devices (x : RegIx) (u : Byte → Byte → UnitOut) :
    (s.immTest x u).devices = s.devices := by rw [immTest_frame s x u]
@[simp] theorem immTest_deviceCalls (x : RegIx) (u : Byte → Byte → UnitOut) :
    (s.immTest x u).deviceCalls = s.deviceCalls := by rw [immTest_frame s x u]
@[simp] theorem immTest_inputs (x : RegIx) (u : Byte → Byte → UnitOut) :
    (s.immTest x u).inputs = s.inputs := by rw [immTest_frame s x u]
@[simp] theorem immTest_draws (x : RegIx) (u : Byte → Byte → UnitOut) :
    (s.immTest x u).draws = s.draws := by rw [immTest_frame s x u]

/-! ## The form with one source register changes registers and flags alone -/

@[simp] theorem unaryOp_cw (x y : RegIx) (u : Byte → Byte → UnitOut) :
    (s.unaryOp x y u).cw = s.cw := by rw [unaryOp_frame s x y u]
@[simp] theorem unaryOp_pc (x y : RegIx) (u : Byte → Byte → UnitOut) :
    (s.unaryOp x y u).pc = s.pc := by rw [unaryOp_frame s x y u]
@[simp] theorem unaryOp_cs (x y : RegIx) (u : Byte → Byte → UnitOut) :
    (s.unaryOp x y u).cs = s.cs := by rw [unaryOp_frame s x y u]
@[simp] theorem unaryOp_csp (x y : RegIx) (u : Byte → Byte → UnitOut) :
    (s.unaryOp x y u).csp = s.csp := by rw [unaryOp_frame s x y u]
@[simp] theorem unaryOp_ap (x y : RegIx) (u : Byte → Byte → UnitOut) :
    (s.unaryOp x y u).ap = s.ap := by rw [unaryOp_frame s x y u]
@[simp] theorem unaryOp_loopStart (x y : RegIx) (u : Byte → Byte → UnitOut) :
    (s.unaryOp x y u).loopStart = s.loopStart := by rw [unaryOp_frame s x y u]
@[simp] theorem unaryOp_loopEnd (x y : RegIx) (u : Byte → Byte → UnitOut) :
    (s.unaryOp x y u).loopEnd = s.loopEnd := by rw [unaryOp_frame s x y u]
@[simp] theorem unaryOp_loopCount (x y : RegIx) (u : Byte → Byte → UnitOut) :
    (s.unaryOp x y u).loopCount = s.loopCount := by rw [unaryOp_frame s x y u]
@[simp] theorem unaryOp_loopPtr (x y : RegIx) (u : Byte → Byte → UnitOut) :
    (s.unaryOp x y u).loopPtr = s.loopPtr := by rw [unaryOp_frame s x y u]
@[simp] theorem unaryOp_vsp (x y : RegIx) (u : Byte → Byte → UnitOut) :
    (s.unaryOp x y u).vsp = s.vsp := by rw [unaryOp_frame s x y u]
@[simp] theorem unaryOp_pool (x y : RegIx) (u : Byte → Byte → UnitOut) :
    (s.unaryOp x y u).pool = s.pool := by rw [unaryOp_frame s x y u]
@[simp] theorem unaryOp_bank (x y : RegIx) (u : Byte → Byte → UnitOut) :
    (s.unaryOp x y u).bank = s.bank := by rw [unaryOp_frame s x y u]
@[simp] theorem unaryOp_page (x y : RegIx) (u : Byte → Byte → UnitOut) :
    (s.unaryOp x y u).page = s.page := by rw [unaryOp_frame s x y u]
@[simp] theorem unaryOp_dirty (x y : RegIx) (u : Byte → Byte → UnitOut) :
    (s.unaryOp x y u).dirty = s.dirty := by rw [unaryOp_frame s x y u]
@[simp] theorem unaryOp_ipool (x y : RegIx) (u : Byte → Byte → UnitOut) :
    (s.unaryOp x y u).ipool = s.ipool := by rw [unaryOp_frame s x y u]
@[simp] theorem unaryOp_icache (x y : RegIx) (u : Byte → Byte → UnitOut) :
    (s.unaryOp x y u).icache = s.icache := by rw [unaryOp_frame s x y u]
@[simp] theorem unaryOp_ipage (x y : RegIx) (u : Byte → Byte → UnitOut) :
    (s.unaryOp x y u).ipage = s.ipage := by rw [unaryOp_frame s x y u]
@[simp] theorem unaryOp_outLatch (x y : RegIx) (u : Byte → Byte → UnitOut) :
    (s.unaryOp x y u).outLatch = s.outLatch := by rw [unaryOp_frame s x y u]
@[simp] theorem unaryOp_inLatch (x y : RegIx) (u : Byte → Byte → UnitOut) :
    (s.unaryOp x y u).inLatch = s.inLatch := by rw [unaryOp_frame s x y u]
@[simp] theorem unaryOp_vt (x y : RegIx) (u : Byte → Byte → UnitOut) :
    (s.unaryOp x y u).vt = s.vt := by rw [unaryOp_frame s x y u]
@[simp] theorem unaryOp_mask (x y : RegIx) (u : Byte → Byte → UnitOut) :
    (s.unaryOp x y u).mask = s.mask := by rw [unaryOp_frame s x y u]
@[simp] theorem unaryOp_pend (x y : RegIx) (u : Byte → Byte → UnitOut) :
    (s.unaryOp x y u).pend = s.pend := by rw [unaryOp_frame s x y u]
@[simp] theorem unaryOp_act (x y : RegIx) (u : Byte → Byte → UnitOut) :
    (s.unaryOp x y u).act = s.act := by rw [unaryOp_frame s x y u]
@[simp] theorem unaryOp_run (x y : RegIx) (u : Byte → Byte → UnitOut) :
    (s.unaryOp x y u).run = s.run := by rw [unaryOp_frame s x y u]
@[simp] theorem unaryOp_devices (x y : RegIx) (u : Byte → Byte → UnitOut) :
    (s.unaryOp x y u).devices = s.devices := by rw [unaryOp_frame s x y u]
@[simp] theorem unaryOp_deviceCalls (x y : RegIx) (u : Byte → Byte → UnitOut) :
    (s.unaryOp x y u).deviceCalls = s.deviceCalls := by rw [unaryOp_frame s x y u]
@[simp] theorem unaryOp_inputs (x y : RegIx) (u : Byte → Byte → UnitOut) :
    (s.unaryOp x y u).inputs = s.inputs := by rw [unaryOp_frame s x y u]
@[simp] theorem unaryOp_draws (x y : RegIx) (u : Byte → Byte → UnitOut) :
    (s.unaryOp x y u).draws = s.draws := by rw [unaryOp_frame s x y u]

/-! ## A division by zero changes registers, flags and the count of draws alone -/

@[simp] theorem divByZero_cw (x y : RegIx) :
    (s.divByZero x y).cw = s.cw := by rw [divByZero_frame s x y]
@[simp] theorem divByZero_pc (x y : RegIx) :
    (s.divByZero x y).pc = s.pc := by rw [divByZero_frame s x y]
@[simp] theorem divByZero_cs (x y : RegIx) :
    (s.divByZero x y).cs = s.cs := by rw [divByZero_frame s x y]
@[simp] theorem divByZero_csp (x y : RegIx) :
    (s.divByZero x y).csp = s.csp := by rw [divByZero_frame s x y]
@[simp] theorem divByZero_ap (x y : RegIx) :
    (s.divByZero x y).ap = s.ap := by rw [divByZero_frame s x y]
@[simp] theorem divByZero_loopStart (x y : RegIx) :
    (s.divByZero x y).loopStart = s.loopStart := by rw [divByZero_frame s x y]
@[simp] theorem divByZero_loopEnd (x y : RegIx) :
    (s.divByZero x y).loopEnd = s.loopEnd := by rw [divByZero_frame s x y]
@[simp] theorem divByZero_loopCount (x y : RegIx) :
    (s.divByZero x y).loopCount = s.loopCount := by rw [divByZero_frame s x y]
@[simp] theorem divByZero_loopPtr (x y : RegIx) :
    (s.divByZero x y).loopPtr = s.loopPtr := by rw [divByZero_frame s x y]
@[simp] theorem divByZero_vsp (x y : RegIx) :
    (s.divByZero x y).vsp = s.vsp := by rw [divByZero_frame s x y]
@[simp] theorem divByZero_pool (x y : RegIx) :
    (s.divByZero x y).pool = s.pool := by rw [divByZero_frame s x y]
@[simp] theorem divByZero_bank (x y : RegIx) :
    (s.divByZero x y).bank = s.bank := by rw [divByZero_frame s x y]
@[simp] theorem divByZero_page (x y : RegIx) :
    (s.divByZero x y).page = s.page := by rw [divByZero_frame s x y]
@[simp] theorem divByZero_dirty (x y : RegIx) :
    (s.divByZero x y).dirty = s.dirty := by rw [divByZero_frame s x y]
@[simp] theorem divByZero_ipool (x y : RegIx) :
    (s.divByZero x y).ipool = s.ipool := by rw [divByZero_frame s x y]
@[simp] theorem divByZero_icache (x y : RegIx) :
    (s.divByZero x y).icache = s.icache := by rw [divByZero_frame s x y]
@[simp] theorem divByZero_ipage (x y : RegIx) :
    (s.divByZero x y).ipage = s.ipage := by rw [divByZero_frame s x y]
@[simp] theorem divByZero_outLatch (x y : RegIx) :
    (s.divByZero x y).outLatch = s.outLatch := by rw [divByZero_frame s x y]
@[simp] theorem divByZero_inLatch (x y : RegIx) :
    (s.divByZero x y).inLatch = s.inLatch := by rw [divByZero_frame s x y]
@[simp] theorem divByZero_vt (x y : RegIx) :
    (s.divByZero x y).vt = s.vt := by rw [divByZero_frame s x y]
@[simp] theorem divByZero_mask (x y : RegIx) :
    (s.divByZero x y).mask = s.mask := by rw [divByZero_frame s x y]
@[simp] theorem divByZero_pend (x y : RegIx) :
    (s.divByZero x y).pend = s.pend := by rw [divByZero_frame s x y]
@[simp] theorem divByZero_act (x y : RegIx) :
    (s.divByZero x y).act = s.act := by rw [divByZero_frame s x y]
@[simp] theorem divByZero_run (x y : RegIx) :
    (s.divByZero x y).run = s.run := by rw [divByZero_frame s x y]
@[simp] theorem divByZero_devices (x y : RegIx) :
    (s.divByZero x y).devices = s.devices := by rw [divByZero_frame s x y]
@[simp] theorem divByZero_deviceCalls (x y : RegIx) :
    (s.divByZero x y).deviceCalls = s.deviceCalls := by rw [divByZero_frame s x y]
@[simp] theorem divByZero_inputs (x y : RegIx) :
    (s.divByZero x y).inputs = s.inputs := by rw [divByZero_frame s x y]

/-! ## A shift by register changes registers, flags and RUN alone -/

@[simp] theorem shiftByReg_cw (x y z : RegIx) (u : Byte → Byte → Nat → UnitOut) :
    (s.shiftByReg x y z u).cw = s.cw := by rw [shiftByReg_frame s x y z u]
@[simp] theorem shiftByReg_pc (x y z : RegIx) (u : Byte → Byte → Nat → UnitOut) :
    (s.shiftByReg x y z u).pc = s.pc := by rw [shiftByReg_frame s x y z u]
@[simp] theorem shiftByReg_cs (x y z : RegIx) (u : Byte → Byte → Nat → UnitOut) :
    (s.shiftByReg x y z u).cs = s.cs := by rw [shiftByReg_frame s x y z u]
@[simp] theorem shiftByReg_csp (x y z : RegIx) (u : Byte → Byte → Nat → UnitOut) :
    (s.shiftByReg x y z u).csp = s.csp := by rw [shiftByReg_frame s x y z u]
@[simp] theorem shiftByReg_ap (x y z : RegIx) (u : Byte → Byte → Nat → UnitOut) :
    (s.shiftByReg x y z u).ap = s.ap := by rw [shiftByReg_frame s x y z u]
@[simp] theorem shiftByReg_loopStart (x y z : RegIx) (u : Byte → Byte → Nat → UnitOut) :
    (s.shiftByReg x y z u).loopStart = s.loopStart := by rw [shiftByReg_frame s x y z u]
@[simp] theorem shiftByReg_loopEnd (x y z : RegIx) (u : Byte → Byte → Nat → UnitOut) :
    (s.shiftByReg x y z u).loopEnd = s.loopEnd := by rw [shiftByReg_frame s x y z u]
@[simp] theorem shiftByReg_loopCount (x y z : RegIx) (u : Byte → Byte → Nat → UnitOut) :
    (s.shiftByReg x y z u).loopCount = s.loopCount := by rw [shiftByReg_frame s x y z u]
@[simp] theorem shiftByReg_loopPtr (x y z : RegIx) (u : Byte → Byte → Nat → UnitOut) :
    (s.shiftByReg x y z u).loopPtr = s.loopPtr := by rw [shiftByReg_frame s x y z u]
@[simp] theorem shiftByReg_vsp (x y z : RegIx) (u : Byte → Byte → Nat → UnitOut) :
    (s.shiftByReg x y z u).vsp = s.vsp := by rw [shiftByReg_frame s x y z u]
@[simp] theorem shiftByReg_pool (x y z : RegIx) (u : Byte → Byte → Nat → UnitOut) :
    (s.shiftByReg x y z u).pool = s.pool := by rw [shiftByReg_frame s x y z u]
@[simp] theorem shiftByReg_bank (x y z : RegIx) (u : Byte → Byte → Nat → UnitOut) :
    (s.shiftByReg x y z u).bank = s.bank := by rw [shiftByReg_frame s x y z u]
@[simp] theorem shiftByReg_page (x y z : RegIx) (u : Byte → Byte → Nat → UnitOut) :
    (s.shiftByReg x y z u).page = s.page := by rw [shiftByReg_frame s x y z u]
@[simp] theorem shiftByReg_dirty (x y z : RegIx) (u : Byte → Byte → Nat → UnitOut) :
    (s.shiftByReg x y z u).dirty = s.dirty := by rw [shiftByReg_frame s x y z u]
@[simp] theorem shiftByReg_ipool (x y z : RegIx) (u : Byte → Byte → Nat → UnitOut) :
    (s.shiftByReg x y z u).ipool = s.ipool := by rw [shiftByReg_frame s x y z u]
@[simp] theorem shiftByReg_icache (x y z : RegIx) (u : Byte → Byte → Nat → UnitOut) :
    (s.shiftByReg x y z u).icache = s.icache := by rw [shiftByReg_frame s x y z u]
@[simp] theorem shiftByReg_ipage (x y z : RegIx) (u : Byte → Byte → Nat → UnitOut) :
    (s.shiftByReg x y z u).ipage = s.ipage := by rw [shiftByReg_frame s x y z u]
@[simp] theorem shiftByReg_outLatch (x y z : RegIx) (u : Byte → Byte → Nat → UnitOut) :
    (s.shiftByReg x y z u).outLatch = s.outLatch := by rw [shiftByReg_frame s x y z u]
@[simp] theorem shiftByReg_inLatch (x y z : RegIx) (u : Byte → Byte → Nat → UnitOut) :
    (s.shiftByReg x y z u).inLatch = s.inLatch := by rw [shiftByReg_frame s x y z u]
@[simp] theorem shiftByReg_vt (x y z : RegIx) (u : Byte → Byte → Nat → UnitOut) :
    (s.shiftByReg x y z u).vt = s.vt := by rw [shiftByReg_frame s x y z u]
@[simp] theorem shiftByReg_mask (x y z : RegIx) (u : Byte → Byte → Nat → UnitOut) :
    (s.shiftByReg x y z u).mask = s.mask := by rw [shiftByReg_frame s x y z u]
@[simp] theorem shiftByReg_pend (x y z : RegIx) (u : Byte → Byte → Nat → UnitOut) :
    (s.shiftByReg x y z u).pend = s.pend := by rw [shiftByReg_frame s x y z u]
@[simp] theorem shiftByReg_act (x y z : RegIx) (u : Byte → Byte → Nat → UnitOut) :
    (s.shiftByReg x y z u).act = s.act := by rw [shiftByReg_frame s x y z u]
@[simp] theorem shiftByReg_devices (x y z : RegIx) (u : Byte → Byte → Nat → UnitOut) :
    (s.shiftByReg x y z u).devices = s.devices := by rw [shiftByReg_frame s x y z u]
@[simp] theorem shiftByReg_deviceCalls (x y z : RegIx) (u : Byte → Byte → Nat → UnitOut) :
    (s.shiftByReg x y z u).deviceCalls = s.deviceCalls := by rw [shiftByReg_frame s x y z u]
@[simp] theorem shiftByReg_inputs (x y z : RegIx) (u : Byte → Byte → Nat → UnitOut) :
    (s.shiftByReg x y z u).inputs = s.inputs := by rw [shiftByReg_frame s x y z u]
@[simp] theorem shiftByReg_draws (x y z : RegIx) (u : Byte → Byte → Nat → UnitOut) :
    (s.shiftByReg x y z u).draws = s.draws := by rw [shiftByReg_frame s x y z u]

/-! ## A push changes the stack, the bank window and the error flag alone -/

@[simp] theorem push_regs (f : BitVec 3) (v : Byte) :
    (s.push f v).regs = s.regs := by rw [push_frame s f v]
@[simp] theorem push_cw (f : BitVec 3) (v : Byte) :
    (s.push f v).cw = s.cw := by rw [push_frame s f v]
@[simp] theorem push_pc (f : BitVec 3) (v : Byte) :
    (s.push f v).pc = s.pc := by rw [push_frame s f v]
@[simp] theorem push_cs (f : BitVec 3) (v : Byte) :
    (s.push f v).cs = s.cs := by rw [push_frame s f v]
@[simp] theorem push_csp (f : BitVec 3) (v : Byte) :
    (s.push f v).csp = s.csp := by rw [push_frame s f v]
@[simp] theorem push_ap (f : BitVec 3) (v : Byte) :
    (s.push f v).ap = s.ap := by rw [push_frame s f v]
@[simp] theorem push_loopStart (f : BitVec 3) (v : Byte) :
    (s.push f v).loopStart = s.loopStart := by rw [push_frame s f v]
@[simp] theorem push_loopEnd (f : BitVec 3) (v : Byte) :
    (s.push f v).loopEnd = s.loopEnd := by rw [push_frame s f v]
@[simp] theorem push_loopCount (f : BitVec 3) (v : Byte) :
    (s.push f v).loopCount = s.loopCount := by rw [push_frame s f v]
@[simp] theorem push_loopPtr (f : BitVec 3) (v : Byte) :
    (s.push f v).loopPtr = s.loopPtr := by rw [push_frame s f v]
@[simp] theorem push_ipool (f : BitVec 3) (v : Byte) :
    (s.push f v).ipool = s.ipool := by rw [push_frame s f v]
@[simp] theorem push_icache (f : BitVec 3) (v : Byte) :
    (s.push f v).icache = s.icache := by rw [push_frame s f v]
@[simp] theorem push_ipage (f : BitVec 3) (v : Byte) :
    (s.push f v).ipage = s.ipage := by rw [push_frame s f v]
@[simp] theorem push_outLatch (f : BitVec 3) (v : Byte) :
    (s.push f v).outLatch = s.outLatch := by rw [push_frame s f v]
@[simp] theorem push_inLatch (f : BitVec 3) (v : Byte) :
    (s.push f v).inLatch = s.inLatch := by rw [push_frame s f v]
@[simp] theorem push_vt (f : BitVec 3) (v : Byte) :
    (s.push f v).vt = s.vt := by rw [push_frame s f v]
@[simp] theorem push_mask (f : BitVec 3) (v : Byte) :
    (s.push f v).mask = s.mask := by rw [push_frame s f v]
@[simp] theorem push_pend (f : BitVec 3) (v : Byte) :
    (s.push f v).pend = s.pend := by rw [push_frame s f v]
@[simp] theorem push_act (f : BitVec 3) (v : Byte) :
    (s.push f v).act = s.act := by rw [push_frame s f v]
@[simp] theorem push_run (f : BitVec 3) (v : Byte) :
    (s.push f v).run = s.run := by rw [push_frame s f v]
@[simp] theorem push_devices (f : BitVec 3) (v : Byte) :
    (s.push f v).devices = s.devices := by rw [push_frame s f v]
@[simp] theorem push_deviceCalls (f : BitVec 3) (v : Byte) :
    (s.push f v).deviceCalls = s.deviceCalls := by rw [push_frame s f v]
@[simp] theorem push_inputs (f : BitVec 3) (v : Byte) :
    (s.push f v).inputs = s.inputs := by rw [push_frame s f v]
@[simp] theorem push_draws (f : BitVec 3) (v : Byte) :
    (s.push f v).draws = s.draws := by rw [push_frame s f v]

/-! ## A poke changes the bank window and the error flag alone -/

@[simp] theorem poke_regs (f : BitVec 3) (v : Byte) :
    (s.poke f v).regs = s.regs := by rw [poke_frame s f v]
@[simp] theorem poke_cw (f : BitVec 3) (v : Byte) :
    (s.poke f v).cw = s.cw := by rw [poke_frame s f v]
@[simp] theorem poke_pc (f : BitVec 3) (v : Byte) :
    (s.poke f v).pc = s.pc := by rw [poke_frame s f v]
@[simp] theorem poke_cs (f : BitVec 3) (v : Byte) :
    (s.poke f v).cs = s.cs := by rw [poke_frame s f v]
@[simp] theorem poke_csp (f : BitVec 3) (v : Byte) :
    (s.poke f v).csp = s.csp := by rw [poke_frame s f v]
@[simp] theorem poke_ap (f : BitVec 3) (v : Byte) :
    (s.poke f v).ap = s.ap := by rw [poke_frame s f v]
@[simp] theorem poke_loopStart (f : BitVec 3) (v : Byte) :
    (s.poke f v).loopStart = s.loopStart := by rw [poke_frame s f v]
@[simp] theorem poke_loopEnd (f : BitVec 3) (v : Byte) :
    (s.poke f v).loopEnd = s.loopEnd := by rw [poke_frame s f v]
@[simp] theorem poke_loopCount (f : BitVec 3) (v : Byte) :
    (s.poke f v).loopCount = s.loopCount := by rw [poke_frame s f v]
@[simp] theorem poke_loopPtr (f : BitVec 3) (v : Byte) :
    (s.poke f v).loopPtr = s.loopPtr := by rw [poke_frame s f v]
@[simp] theorem poke_vsp (f : BitVec 3) (v : Byte) :
    (s.poke f v).vsp = s.vsp := by rw [poke_frame s f v]
@[simp] theorem poke_ipool (f : BitVec 3) (v : Byte) :
    (s.poke f v).ipool = s.ipool := by rw [poke_frame s f v]
@[simp] theorem poke_icache (f : BitVec 3) (v : Byte) :
    (s.poke f v).icache = s.icache := by rw [poke_frame s f v]
@[simp] theorem poke_ipage (f : BitVec 3) (v : Byte) :
    (s.poke f v).ipage = s.ipage := by rw [poke_frame s f v]
@[simp] theorem poke_outLatch (f : BitVec 3) (v : Byte) :
    (s.poke f v).outLatch = s.outLatch := by rw [poke_frame s f v]
@[simp] theorem poke_inLatch (f : BitVec 3) (v : Byte) :
    (s.poke f v).inLatch = s.inLatch := by rw [poke_frame s f v]
@[simp] theorem poke_vt (f : BitVec 3) (v : Byte) :
    (s.poke f v).vt = s.vt := by rw [poke_frame s f v]
@[simp] theorem poke_mask (f : BitVec 3) (v : Byte) :
    (s.poke f v).mask = s.mask := by rw [poke_frame s f v]
@[simp] theorem poke_pend (f : BitVec 3) (v : Byte) :
    (s.poke f v).pend = s.pend := by rw [poke_frame s f v]
@[simp] theorem poke_act (f : BitVec 3) (v : Byte) :
    (s.poke f v).act = s.act := by rw [poke_frame s f v]
@[simp] theorem poke_run (f : BitVec 3) (v : Byte) :
    (s.poke f v).run = s.run := by rw [poke_frame s f v]
@[simp] theorem poke_devices (f : BitVec 3) (v : Byte) :
    (s.poke f v).devices = s.devices := by rw [poke_frame s f v]
@[simp] theorem poke_deviceCalls (f : BitVec 3) (v : Byte) :
    (s.poke f v).deviceCalls = s.deviceCalls := by rw [poke_frame s f v]
@[simp] theorem poke_inputs (f : BitVec 3) (v : Byte) :
    (s.poke f v).inputs = s.inputs := by rw [poke_frame s f v]
@[simp] theorem poke_draws (f : BitVec 3) (v : Byte) :
    (s.poke f v).draws = s.draws := by rw [poke_frame s f v]

end Sys2Proof.Laws
end

