-- ==== Sys2Proof/Laws/HostActions.lean ====
section
/-! SUPPORT. What direct execution can do, said once (spec/10_state.md R24). -/

namespace Sys2Proof.Laws

open Sys2Proof.Machine

/-- A direct execution that answers a next state runs in a running or paused machine, as `exec` does, or in a STOPPED one, which stays
STOPPED (spec/70_reset_and_hazards.md R304) and raises no DomainFault; a FAULTED machine has none (spec/60_exceptions.md R284). -/
theorem directExec_cases {w : Word} {s t : State} (h : directExec w s = .next t) :
    ((s.run = .running ∨ s.run = .paused) ∧ exec (decode w) s = .next t) ∨
    (s.run = .stopped ∧ ∃ u, exec (decode w) s = .next u ∧ u.run ≠ .faulted ∧ t = { u with run := .stopped }) := by
  unfold directExec at h
  cases hr : s.run <;> rw [hr] at h <;> simp only at h
  · exact .inl ⟨.inl rfl, h⟩
  · exact .inl ⟨.inr rfl, h⟩
  · refine .inr ⟨rfl, ?_⟩
    cases he : exec (decode w) s with
    | next u =>
      rw [he] at h
      simp only [keepStopped] at h
      split at h
      · cases h
      · exact ⟨u, rfl, ‹_›, by cases h; rfl⟩
    | fault f => rw [he] at h; cases h
    | refused r => rw [he] at h; cases h
  · cases h

end Sys2Proof.Laws
end

