-- ==== Sys2Proof/Laws/PerInstr.lean ====
section
/-! SUPPORT. A statement for all instructions, one lemma per constructor: the word of an instruction has the fixed bits of its row of
spec/opcode_table.json (spec/30_encoding.md R80, R81). -/

namespace Sys2Proof.Laws

/-- The encoder's word for `i` agrees with the mask and match of `i`'s row of spec/opcode_table.json. -/
def TableRow.Statement (i : Instr) : Prop := encode i &&& i.row.1 = i.row.2

/-- A mask of all ones keeps a field. -/
theorem and_ones {w : Nat} (v m : BitVec w) (h : m = BitVec.allOnes w) : v &&& m = v := by
  subst h; exact BitVec.and_allOnes

/-! Under the mask of its class a record keeps its opcode and subtype (for SYS also `x`) and loses its other fields. -/

theorem mask_n (f : Fields) (op : BitVec 5) (w : Word)
    (h : classOf op = .n) (ho : f.op = op) (hw : op ++ 0#11 = w) :
    encodeFields f &&& 0xF800 = w := by
  subst ho hw
  unfold encodeFields
  rw [h]
  show (f.op ++ 0#11 : Word) &&& (31#5 ++ 0#11 : Word) = _
  simp only [BitVec.and_append, BitVec.and_zero]
  repeat rw [and_ones _ _ (by decide)]

theorem mask_s1 (f : Fields) (op : BitVec 5) (k : BitVec 2) (w : Word)
    (h : classOf op = .s1) (ho : f.op = op) (hk : f.kind = k) (hw : op ++ 0#10 ++ (k.setWidth 1 : BitVec 1) = w) :
    encodeFields f &&& 0xF801 = w := by
  subst ho hk hw
  unfold encodeFields
  rw [h]
  show (f.op ++ 0#10 ++ (f.kind.setWidth 1 : BitVec 1) : Word) &&& (31#5 ++ 0#10 ++ 1#1 : Word) = _
  simp only [BitVec.and_append, BitVec.and_zero]
  repeat rw [and_ones _ _ (by decide)]

theorem mask_s2 (f : Fields) (op : BitVec 5) (k : BitVec 2) (w : Word)
    (h : classOf op = .s2) (ho : f.op = op) (hk : f.kind = k) (hw : op ++ 0#9 ++ k = w) :
    encodeFields f &&& 0xF803 = w := by
  subst ho hk hw
  unfold encodeFields
  rw [h]
  show (f.op ++ 0#9 ++ f.kind : Word) &&& (31#5 ++ 0#9 ++ 3#2 : Word) = _
  simp only [BitVec.and_append, BitVec.and_zero]
  repeat rw [and_ones _ _ (by decide)]

theorem mask_sys (f : Fields) (op : BitVec 5) (x : BitVec 3) (w : Word)
    (h : classOf op = .ri8) (ho : f.op = op) (hx : f.x3 = x) (hw : op ++ x ++ 0#8 = w) :
    encodeFields f &&& 0xFF00 = w := by
  subst ho hx hw
  unfold encodeFields
  rw [h]
  show (f.op ++ f.x3 ++ f.y : Word) &&& (31#5 ++ 7#3 ++ 0#8 : Word) = _
  simp only [BitVec.and_append, BitVec.and_zero]
  repeat rw [and_ones _ _ (by decide)]

theorem mask_ri8 (f : Fields) (op : BitVec 5) (w : Word)
    (h : classOf op = .ri8) (ho : f.op = op) (hw : op ++ 0#3 ++ 0#8 = w) :
    encodeFields f &&& 0xF800 = w := by
  subst ho hw
  unfold encodeFields
  rw [h]
  show (f.op ++ f.x3 ++ f.y : Word) &&& (31#5 ++ 0#3 ++ 0#8 : Word) = _
  simp only [BitVec.and_append, BitVec.and_zero]
  repeat rw [and_ones _ _ (by decide)]

theorem mask_rrr (f : Fields) (op : BitVec 5) (w : Word)
    (h : classOf op = .rrr) (ho : f.op = op) (hw : op ++ 0#3 ++ 0#3 ++ 0#5 = w) :
    encodeFields f &&& 0xF800 = w := by
  subst ho hw
  unfold encodeFields
  rw [h]
  show (f.op ++ f.x3 ++ f.y3 ++ f.z : Word) &&& (31#5 ++ 0#3 ++ 0#3 ++ 0#5 : Word) = _
  simp only [BitVec.and_append, BitVec.and_zero]
  repeat rw [and_ones _ _ (by decide)]

theorem mask_w11 (f : Fields) (op : BitVec 5) (w : Word)
    (h : classOf op = .w11) (ho : f.op = op) (hw : op ++ 0#11 = w) :
    encodeFields f &&& 0xF800 = w := by
  subst ho hw
  unfold encodeFields
  rw [h]
  show (f.op ++ f.x : Word) &&& (31#5 ++ 0#11 : Word) = _
  simp only [BitVec.and_append, BitVec.and_zero]
  repeat rw [and_ones _ _ (by decide)]

theorem mask_r6 (f : Fields) (op : BitVec 5) (w : Word)
    (h : classOf op = .r6) (ho : f.op = op) (hw : op ++ 0#3 ++ 0#2 ++ 0#6 = w) :
    encodeFields f &&& 0xF800 = w := by
  subst ho hw
  unfold encodeFields
  rw [h]
  show (f.op ++ f.x3 ++ 0#2 ++ f.y6 : Word) &&& (31#5 ++ 0#3 ++ 0#2 ++ 0#6 : Word) = _
  simp only [BitVec.and_append, BitVec.and_zero]
  repeat rw [and_ones _ _ (by decide)]

theorem mask_rr (f : Fields) (op : BitVec 5) (w : Word)
    (h : classOf op = .rr) (ho : f.op = op) (hw : op ++ 0#3 ++ 0#3 ++ 0#5 = w) :
    encodeFields f &&& 0xF800 = w := by
  subst ho hw
  unfold encodeFields
  rw [h]
  show (f.op ++ f.x3 ++ f.y3 ++ 0#5 : Word) &&& (31#5 ++ 0#3 ++ 0#3 ++ 0#5 : Word) = _
  simp only [BitVec.and_append, BitVec.and_zero]
  repeat rw [and_ones _ _ (by decide)]

theorem mask_rrt (f : Fields) (op : BitVec 5) (k : BitVec 2) (w : Word)
    (h : classOf op = .rrt) (ho : f.op = op) (hk : f.kind = k) (hw : op ++ 0#3 ++ 0#3 ++ k ++ 0#3 = w) :
    encodeFields f &&& 0xF818 = w := by
  subst ho hk hw
  unfold encodeFields
  rw [h]
  show (f.op ++ f.x3 ++ f.y3 ++ f.kind ++ 0#3 : Word) &&& (31#5 ++ 0#3 ++ 0#3 ++ 3#2 ++ 0#3 : Word) = _
  simp only [BitVec.and_append, BitVec.and_zero]
  repeat rw [and_ones _ _ (by decide)]

theorem mask_rrtz (f : Fields) (op : BitVec 5) (k : BitVec 2) (w : Word)
    (h : classOf op = .rrtz) (ho : f.op = op) (hk : f.kind = k) (hw : op ++ 0#3 ++ 0#3 ++ k ++ 0#3 = w) :
    encodeFields f &&& 0xF818 = w := by
  subst ho hk hw
  unfold encodeFields
  rw [h]
  show (f.op ++ f.x3 ++ f.y3 ++ f.kind ++ f.z3 : Word) &&& (31#5 ++ 0#3 ++ 0#3 ++ 3#2 ++ 0#3 : Word) = _
  simp only [BitVec.and_append, BitVec.and_zero]
  repeat rw [and_ones _ _ (by decide)]

theorem TableRow.nop : TableRow.Statement .nop :=
  mask_n (mkFields 0 0 0 0 0) 0 0x0000 rfl rfl (by decide)
theorem TableRow.hlt0 : TableRow.Statement .hlt0 :=
  mask_s2 (mkFields 1 0 0 0 0) 1 0 0x0800 rfl rfl rfl (by decide)
theorem TableRow.hlt1 : TableRow.Statement .hlt1 :=
  mask_s2 (mkFields 1 1 0 0 0) 1 1 0x0801 rfl rfl rfl (by decide)
theorem TableRow.hlt2 : TableRow.Statement .hlt2 :=
  mask_s2 (mkFields 1 2 0 0 0) 1 2 0x0802 rfl rfl rfl (by decide)
theorem TableRow.hlt3 : TableRow.Statement .hlt3 :=
  mask_s2 (mkFields 1 3 0 0 0) 1 3 0x0803 rfl rfl rfl (by decide)
theorem TableRow.sys0 (v : Byte) : TableRow.Statement (.sys0 v) :=
  mask_sys (fieldsXB 2 0 v) 2 0 0x1000 rfl rfl rfl (by decide)
theorem TableRow.sys1 (v : Byte) : TableRow.Statement (.sys1 v) :=
  mask_sys (fieldsXB 2 1 v) 2 1 0x1100 rfl rfl rfl (by decide)
theorem TableRow.sys2 (v : Byte) : TableRow.Statement (.sys2 v) :=
  mask_sys (fieldsXB 2 2 v) 2 2 0x1200 rfl rfl rfl (by decide)
theorem TableRow.sys3 (v : Byte) : TableRow.Statement (.sys3 v) :=
  mask_sys (fieldsXB 2 3 v) 2 3 0x1300 rfl rfl rfl (by decide)
theorem TableRow.sys4 (v : Byte) : TableRow.Statement (.sys4 v) :=
  mask_sys (fieldsXB 2 4 v) 2 4 0x1400 rfl rfl rfl (by decide)
theorem TableRow.sys5 (v : Byte) : TableRow.Statement (.sys5 v) :=
  mask_sys (fieldsXB 2 5 v) 2 5 0x1500 rfl rfl rfl (by decide)
theorem TableRow.sys6 (v : Byte) : TableRow.Statement (.sys6 v) :=
  mask_sys (fieldsXB 2 6 v) 2 6 0x1600 rfl rfl rfl (by decide)
theorem TableRow.sys7 (v : Byte) : TableRow.Statement (.sys7 v) :=
  mask_sys (fieldsXB 2 7 v) 2 7 0x1700 rfl rfl rfl (by decide)
theorem TableRow.ldc (x : RegIx) (c : BitVec 3) (v : BitVec 5) : TableRow.Statement (.ldc x c v) :=
  mask_rrr (mkFields 3 0 (x.setWidth 11) (c.setWidth 8) v) 3 0x1800 rfl rfl (by decide)
theorem TableRow.jmp (a : BitVec 11) : TableRow.Statement (.jmp a) :=
  mask_w11 (mkFields 4 0 a 0 0) 4 0x2000 rfl rfl (by decide)
theorem TableRow.brc (c : BitVec 3) (o : BitVec 6) : TableRow.Statement (.brc c o) :=
  mask_r6 (fieldsXB 5 c (o.setWidth 8)) 5 0x2800 rfl rfl (by decide)
theorem TableRow.cal (a : BitVec 11) : TableRow.Statement (.cal a) :=
  mask_w11 (mkFields 6 0 a 0 0) 6 0x3000 rfl rfl (by decide)
theorem TableRow.ret0 : TableRow.Statement .ret0 :=
  mask_s1 (mkFields 7 0 0 0 0) 7 0 0x3800 rfl rfl rfl (by decide)
theorem TableRow.ret1 : TableRow.Statement .ret1 :=
  mask_s1 (mkFields 7 1 0 0 0) 7 1 0x3801 rfl rfl rfl (by decide)
theorem TableRow.inp (x : RegIx) (p : Byte) : TableRow.Statement (.inp x p) :=
  mask_ri8 (fieldsXB 8 x p) 8 0x4000 rfl rfl (by decide)
theorem TableRow.out (x : RegIx) (p : Byte) : TableRow.Statement (.out x p) :=
  mask_ri8 (fieldsXB 9 x p) 9 0x4800 rfl rfl (by decide)
theorem TableRow.lds (x : RegIx) (k : BitVec 3) : TableRow.Statement (.lds x k) :=
  mask_rr (fieldsXY 10 0 x k) 10 0x5000 rfl rfl (by decide)
theorem TableRow.sts (x : RegIx) (k : BitVec 3) : TableRow.Statement (.sts x k) :=
  mask_rr (fieldsXY 11 0 x k) 11 0x5800 rfl rfl (by decide)
theorem TableRow.pop0 (x : RegIx) (f : BitVec 3) : TableRow.Statement (.pop0 x f) :=
  mask_rrt (fieldsXY 12 0 x f) 12 0 0x6000 rfl rfl rfl (by decide)
theorem TableRow.pop1 (x : RegIx) (f : BitVec 3) : TableRow.Statement (.pop1 x f) :=
  mask_rrt (fieldsXY 12 1 x f) 12 1 0x6008 rfl rfl rfl (by decide)
theorem TableRow.pop2 (x : RegIx) (f : BitVec 3) : TableRow.Statement (.pop2 x f) :=
  mask_rrt (fieldsXY 12 2 x f) 12 2 0x6010 rfl rfl rfl (by decide)
theorem TableRow.pop3 (x : RegIx) (f : BitVec 3) : TableRow.Statement (.pop3 x f) :=
  mask_rrt (fieldsXY 12 3 x f) 12 3 0x6018 rfl rfl rfl (by decide)
theorem TableRow.psh0 (x : RegIx) (f : BitVec 3) : TableRow.Statement (.psh0 x f) :=
  mask_rrt (fieldsXY 13 0 x f) 13 0 0x6800 rfl rfl rfl (by decide)
theorem TableRow.psh1 (x : RegIx) (f : BitVec 3) : TableRow.Statement (.psh1 x f) :=
  mask_rrt (fieldsXY 13 1 x f) 13 1 0x6808 rfl rfl rfl (by decide)
theorem TableRow.psh2 (x : RegIx) (f : BitVec 3) : TableRow.Statement (.psh2 x f) :=
  mask_rrt (fieldsXY 13 2 x f) 13 2 0x6810 rfl rfl rfl (by decide)
theorem TableRow.psh3 (x : RegIx) (f : BitVec 3) : TableRow.Statement (.psh3 x f) :=
  mask_rrt (fieldsXY 13 3 x f) 13 3 0x6818 rfl rfl rfl (by decide)
theorem TableRow.mld (x : RegIx) (o : BitVec 6) : TableRow.Statement (.mld x o) :=
  mask_r6 (fieldsXB 14 x (o.setWidth 8)) 14 0x7000 rfl rfl (by decide)
theorem TableRow.mst (x : RegIx) (o : BitVec 6) : TableRow.Statement (.mst x o) :=
  mask_r6 (fieldsXB 15 x (o.setWidth 8)) 15 0x7800 rfl rfl (by decide)
theorem TableRow.ldi (x : RegIx) (v : Byte) : TableRow.Statement (.ldi x v) :=
  mask_ri8 (fieldsXB 16 x v) 16 0x8000 rfl rfl (by decide)
theorem TableRow.mov0 (x y : RegIx) : TableRow.Statement (.mov0 x y) :=
  mask_rrt (fieldsXY 17 0 x y) 17 0 0x8800 rfl rfl rfl (by decide)
theorem TableRow.mov1 (x y : RegIx) : TableRow.Statement (.mov1 x y) :=
  mask_rrt (fieldsXY 17 1 x y) 17 1 0x8808 rfl rfl rfl (by decide)
theorem TableRow.mov2 (x y : RegIx) : TableRow.Statement (.mov2 x y) :=
  mask_rrt (fieldsXY 17 2 x y) 17 2 0x8810 rfl rfl rfl (by decide)
theorem TableRow.mov3 (x y : RegIx) : TableRow.Statement (.mov3 x y) :=
  mask_rrt (fieldsXY 17 3 x y) 17 3 0x8818 rfl rfl rfl (by decide)
theorem TableRow.adi (x : RegIx) (v : Byte) : TableRow.Statement (.adi x v) :=
  mask_ri8 (fieldsXB 18 x v) 18 0x9000 rfl rfl (by decide)
theorem TableRow.ani (x : RegIx) (v : Byte) : TableRow.Statement (.ani x v) :=
  mask_ri8 (fieldsXB 19 x v) 19 0x9800 rfl rfl (by decide)
theorem TableRow.ori (x : RegIx) (v : Byte) : TableRow.Statement (.ori x v) :=
  mask_ri8 (fieldsXB 20 x v) 20 0xA000 rfl rfl (by decide)
theorem TableRow.xri (x : RegIx) (v : Byte) : TableRow.Statement (.xri x v) :=
  mask_ri8 (fieldsXB 21 x v) 21 0xA800 rfl rfl (by decide)
theorem TableRow.cpi (x : RegIx) (v : Byte) : TableRow.Statement (.cpi x v) :=
  mask_ri8 (fieldsXB 22 x v) 22 0xB000 rfl rfl (by decide)
theorem TableRow.tsi (x : RegIx) (v : Byte) : TableRow.Statement (.tsi x v) :=
  mask_ri8 (fieldsXB 23 x v) 23 0xB800 rfl rfl (by decide)
theorem TableRow.add (x y z : RegIx) : TableRow.Statement (.add x y z) :=
  mask_rrtz (fieldsXYZ 24 0 x y z) 24 0 0xC000 rfl rfl rfl (by decide)
theorem TableRow.adc (x y z : RegIx) : TableRow.Statement (.adc x y z) :=
  mask_rrtz (fieldsXYZ 24 1 x y z) 24 1 0xC008 rfl rfl rfl (by decide)
theorem TableRow.vad (x y z : RegIx) : TableRow.Statement (.vad x y z) :=
  mask_rrtz (fieldsXYZ 24 2 x y z) 24 2 0xC010 rfl rfl rfl (by decide)
theorem TableRow.vac (x y z : RegIx) : TableRow.Statement (.vac x y z) :=
  mask_rrtz (fieldsXYZ 24 3 x y z) 24 3 0xC018 rfl rfl rfl (by decide)
theorem TableRow.sub (x y z : RegIx) : TableRow.Statement (.sub x y z) :=
  mask_rrtz (fieldsXYZ 25 0 x y z) 25 0 0xC800 rfl rfl rfl (by decide)
theorem TableRow.sbb (x y z : RegIx) : TableRow.Statement (.sbb x y z) :=
  mask_rrtz (fieldsXYZ 25 1 x y z) 25 1 0xC808 rfl rfl rfl (by decide)
theorem TableRow.vsb (x y z : RegIx) : TableRow.Statement (.vsb x y z) :=
  mask_rrtz (fieldsXYZ 25 2 x y z) 25 2 0xC810 rfl rfl rfl (by decide)
theorem TableRow.vsc (x y z : RegIx) : TableRow.Statement (.vsc x y z) :=
  mask_rrtz (fieldsXYZ 25 3 x y z) 25 3 0xC818 rfl rfl rfl (by decide)
theorem TableRow.or (x y z : RegIx) : TableRow.Statement (.or x y z) :=
  mask_rrtz (fieldsXYZ 26 0 x y z) 26 0 0xD000 rfl rfl rfl (by decide)
theorem TableRow.and (x y z : RegIx) : TableRow.Statement (.and x y z) :=
  mask_rrtz (fieldsXYZ 26 1 x y z) 26 1 0xD008 rfl rfl rfl (by decide)
theorem TableRow.xor (x y z : RegIx) : TableRow.Statement (.xor x y z) :=
  mask_rrtz (fieldsXYZ 26 2 x y z) 26 2 0xD010 rfl rfl rfl (by decide)
theorem TableRow.imp (x y z : RegIx) : TableRow.Statement (.imp x y z) :=
  mask_rrtz (fieldsXYZ 26 3 x y z) 26 3 0xD018 rfl rfl rfl (by decide)
theorem TableRow.nor (x y z : RegIx) : TableRow.Statement (.nor x y z) :=
  mask_rrtz (fieldsXYZ 27 0 x y z) 27 0 0xD800 rfl rfl rfl (by decide)
theorem TableRow.nand (x y z : RegIx) : TableRow.Statement (.nand x y z) :=
  mask_rrtz (fieldsXYZ 27 1 x y z) 27 1 0xD808 rfl rfl rfl (by decide)
theorem TableRow.xnor (x y z : RegIx) : TableRow.Statement (.xnor x y z) :=
  mask_rrtz (fieldsXYZ 27 2 x y z) 27 2 0xD810 rfl rfl rfl (by decide)
theorem TableRow.nimp (x y z : RegIx) : TableRow.Statement (.nimp x y z) :=
  mask_rrtz (fieldsXYZ 27 3 x y z) 27 3 0xD818 rfl rfl rfl (by decide)
theorem TableRow.lsl (x y z : RegIx) : TableRow.Statement (.lsl x y z) :=
  mask_rrtz (fieldsXYZ 28 0 x y z) 28 0 0xE000 rfl rfl rfl (by decide)
theorem TableRow.lsr (x y z : RegIx) : TableRow.Statement (.lsr x y z) :=
  mask_rrtz (fieldsXYZ 28 1 x y z) 28 1 0xE008 rfl rfl rfl (by decide)
theorem TableRow.rol (x y z : RegIx) : TableRow.Statement (.rol x y z) :=
  mask_rrtz (fieldsXYZ 28 2 x y z) 28 2 0xE010 rfl rfl rfl (by decide)
theorem TableRow.asr (x y z : RegIx) : TableRow.Statement (.asr x y z) :=
  mask_rrtz (fieldsXYZ 28 3 x y z) 28 3 0xE018 rfl rfl rfl (by decide)
theorem TableRow.lsli (x y : RegIx) (n : BitVec 3) : TableRow.Statement (.lsli x y n) :=
  mask_rrtz (fieldsXYZ 29 0 x y n) 29 0 0xE800 rfl rfl rfl (by decide)
theorem TableRow.lsri (x y : RegIx) (n : BitVec 3) : TableRow.Statement (.lsri x y n) :=
  mask_rrtz (fieldsXYZ 29 1 x y n) 29 1 0xE808 rfl rfl rfl (by decide)
theorem TableRow.roli (x y : RegIx) (n : BitVec 3) : TableRow.Statement (.roli x y n) :=
  mask_rrtz (fieldsXYZ 29 2 x y n) 29 2 0xE810 rfl rfl rfl (by decide)
theorem TableRow.asri (x y : RegIx) (n : BitVec 3) : TableRow.Statement (.asri x y n) :=
  mask_rrtz (fieldsXYZ 29 3 x y n) 29 3 0xE818 rfl rfl rfl (by decide)
theorem TableRow.muli (x y : RegIx) (n : BitVec 3) : TableRow.Statement (.muli x y n) :=
  mask_rrtz (fieldsXYZ 30 0 x y n) 30 0 0xF000 rfl rfl rfl (by decide)
theorem TableRow.muhi (x y : RegIx) (n : BitVec 3) : TableRow.Statement (.muhi x y n) :=
  mask_rrtz (fieldsXYZ 30 1 x y n) 30 1 0xF008 rfl rfl rfl (by decide)
theorem TableRow.divi (x y : RegIx) (n : BitVec 3) : TableRow.Statement (.divi x y n) :=
  mask_rrtz (fieldsXYZ 30 2 x y n) 30 2 0xF010 rfl rfl rfl (by decide)
theorem TableRow.modi (x y : RegIx) (n : BitVec 3) : TableRow.Statement (.modi x y n) :=
  mask_rrtz (fieldsXYZ 30 3 x y n) 30 3 0xF018 rfl rfl rfl (by decide)
theorem TableRow.sqrt (x y : RegIx) : TableRow.Statement (.sqrt x y) :=
  mask_rrt (fieldsXY 31 0 x y) 31 0 0xF800 rfl rfl rfl (by decide)
theorem TableRow.clz (x y : RegIx) : TableRow.Statement (.clz x y) :=
  mask_rrt (fieldsXY 31 1 x y) 31 1 0xF808 rfl rfl rfl (by decide)
theorem TableRow.ctz (x y : RegIx) : TableRow.Statement (.ctz x y) :=
  mask_rrt (fieldsXY 31 2 x y) 31 2 0xF810 rfl rfl rfl (by decide)
theorem TableRow.popc (x y : RegIx) : TableRow.Statement (.popc x y) :=
  mask_rrt (fieldsXY 31 3 x y) 31 3 0xF818 rfl rfl rfl (by decide)

end Sys2Proof.Laws
end

