-- ==== Sys2Proof/Tests/Slice0.lean ====
section
/-! SUPPORT. The model's own tests: the checks of WellFormed on ill-formed records, the decoding of a written-out word of every row of
the opcode table, one or two steps of every instruction with the results of spec/95_test_vectors.md Part 3 (whole states are compared,
so a test also shows that nothing else changed), interrupt cases of its Part 4, and a witness for every statement that has hypotheses. -/

open Sys2Proof Sys2Proof.Machine Sys2Proof.Spec

namespace Sys2Proof.Tests

/-! ## Helpers -/

/-- The state after reset with the clock running. -/
def ready : State := { State.reset with run := .running }

/-- Registers 0, 1, … of a list, 0 past its end. -/
def regs (l : List Byte) : Regs :=
  ⟨l.getD 0 0, l.getD 1 0, l.getD 2 0, l.getD 3 0, l.getD 4 0, l.getD 5 0, l.getD 6 0, l.getD 7 0⟩

/-- Direct execution of a word (spec/10_state.md R24), `none` for a stop. -/
def run (w : Word) (s : State) : Option State :=
  match directExec w s with
  | .next t => some t
  | .fault _ => none
  | .refused _ => none

/-- One tick, `none` for a stop. -/
def tick (s : State) : Option State :=
  match step s with
  | .next t => some t
  | .fault _ => none
  | .refused _ => none

/-- Register 3 holds 8. -/
def regs3 : State := { ready with regs := regs [0, 0, 0, 8] }

/-- User mode. -/
def user : State := { ready with cw := 0 }

/-- The alternate condition table is selected; S and V are set. -/
def alternate : State := { ready with cw := 5, sw := 0xA0 }

/-- Device 1 is bound to ports 16 and 17. -/
def bound : State := { ready with devices := [⟨1, 16, 2⟩] }

/-! ## WellFormed: each check refuses an ill-formed record -/

theorem test_xFits_refuses : (⟨24, 0, 8, 0, 0, 0⟩ : Fields).xFits .rrtz = false ∧ (⟨24, 0, 8, 0, 0, 0⟩ : Fields).wf .rrtz = false := by
  decide

theorem test_yFits_refuses : (⟨5, 0, 0, 64, 0, 0⟩ : Fields).yFits .r6 = false ∧ (⟨5, 0, 0, 64, 0, 0⟩ : Fields).wf .r6 = false := by
  decide

theorem test_kindFits_refuses : (⟨7, 2, 0, 0, 0, 0⟩ : Fields).kindFits .s1 = false ∧ (⟨7, 2, 0, 0, 0, 0⟩ : Fields).wf .s1 = false := by
  decide

theorem test_zFits_refuses : (⟨30, 0, 0, 0, 8, 0⟩ : Fields).zFits .rrtz = false ∧ (⟨30, 0, 0, 0, 8, 0⟩ : Fields).wf .rrtz = false := by
  decide

theorem test_undefined_field_refused : (⟨0, 0, 1, 0, 0, 0⟩ : Fields).wf .n = false := by decide

/-! ## Decoding (spec/30_encoding.md R72, R80, R81): a word of every row, its ignored bits 1 -/

theorem test_decode_n :
    decode 0b0000011111111111 = .nop := by decide

theorem test_decode_s2 :
    decode 0b0000111111111100 = .hlt0 ∧
    decode 0b0000111111111101 = .hlt1 ∧
    decode 0b0000111111111110 = .hlt2 ∧
    decode 0b0000111111111111 = .hlt3 := by decide

theorem test_decode_ri8 :
    decode 0b0001000010100111 = .sys0 0xA7 ∧
    decode 0b0001000110100111 = .sys1 0xA7 ∧
    decode 0b0001001010100111 = .sys2 0xA7 ∧
    decode 0b0001001110100111 = .sys3 0xA7 ∧
    decode 0b0001010010100111 = .sys4 0xA7 ∧
    decode 0b0001010110100111 = .sys5 0xA7 ∧
    decode 0b0001011010100111 = .sys6 0xA7 ∧
    decode 0b0001011110100111 = .sys7 0xA7 ∧
    decode 0b0100010110100111 = .inp 5 0xA7 ∧
    decode 0b0100110110100111 = .out 5 0xA7 := by decide

theorem test_decode_ri8_2 :
    decode 0b1000010110100111 = .ldi 5 0xA7 ∧
    decode 0b1001010110100111 = .adi 5 0xA7 ∧
    decode 0b1001110110100111 = .ani 5 0xA7 ∧
    decode 0b1010010110100111 = .ori 5 0xA7 ∧
    decode 0b1010110110100111 = .xri 5 0xA7 ∧
    decode 0b1011010110100111 = .cpi 5 0xA7 ∧
    decode 0b1011110110100111 = .tsi 5 0xA7 := by decide

theorem test_decode_rrr :
    decode 0b0001110111010110 = .ldc 5 6 0x16 := by decide

theorem test_decode_w11 :
    decode 0b0010010110100011 = .jmp 0x5A3 ∧
    decode 0b0011010110100011 = .cal 0x5A3 := by decide

theorem test_decode_r6 :
    decode 0b0010110111101101 = .brc 5 0x2D ∧
    decode 0b0111010111101101 = .mld 5 0x2D ∧
    decode 0b0111110111101101 = .mst 5 0x2D := by decide

theorem test_decode_s1 :
    decode 0b0011111111111110 = .ret0 ∧
    decode 0b0011111111111111 = .ret1 := by decide

theorem test_decode_rr :
    decode 0b0101010111011111 = .lds 5 6 ∧
    decode 0b0101110111011111 = .sts 5 6 := by decide

theorem test_decode_rrt :
    decode 0b0110010111000111 = .pop0 5 6 ∧
    decode 0b0110010111001111 = .pop1 5 6 ∧
    decode 0b0110010111010111 = .pop2 5 6 ∧
    decode 0b0110010111011111 = .pop3 5 6 ∧
    decode 0b0110110111000111 = .psh0 5 6 ∧
    decode 0b0110110111001111 = .psh1 5 6 ∧
    decode 0b0110110111010111 = .psh2 5 6 ∧
    decode 0b0110110111011111 = .psh3 5 6 ∧
    decode 0b1000110111000111 = .mov0 5 6 ∧
    decode 0b1000110111001111 = .mov1 5 6 := by decide

theorem test_decode_rrt_2 :
    decode 0b1000110111010111 = .mov2 5 6 ∧
    decode 0b1000110111011111 = .mov3 5 6 ∧
    decode 0b1111110111000111 = .sqrt 5 6 ∧
    decode 0b1111110111001111 = .clz 5 6 ∧
    decode 0b1111110111010111 = .ctz 5 6 ∧
    decode 0b1111110111011111 = .popc 5 6 := by decide

theorem test_decode_rrtz :
    decode 0b1100010111000011 = .add 5 6 3 ∧
    decode 0b1100010111001011 = .adc 5 6 3 ∧
    decode 0b1100010111010011 = .vad 5 6 3 ∧
    decode 0b1100010111011011 = .vac 5 6 3 ∧
    decode 0b1100110111000011 = .sub 5 6 3 ∧
    decode 0b1100110111001011 = .sbb 5 6 3 ∧
    decode 0b1100110111010011 = .vsb 5 6 3 ∧
    decode 0b1100110111011011 = .vsc 5 6 3 ∧
    decode 0b1101010111000011 = .or 5 6 3 ∧
    decode 0b1101010111001011 = .and 5 6 3 := by decide

theorem test_decode_rrtz_2 :
    decode 0b1101010111010011 = .xor 5 6 3 ∧
    decode 0b1101010111011011 = .imp 5 6 3 ∧
    decode 0b1101110111000011 = .nor 5 6 3 ∧
    decode 0b1101110111001011 = .nand 5 6 3 ∧
    decode 0b1101110111010011 = .xnor 5 6 3 ∧
    decode 0b1101110111011011 = .nimp 5 6 3 ∧
    decode 0b1110010111000011 = .lsl 5 6 3 ∧
    decode 0b1110010111001011 = .lsr 5 6 3 ∧
    decode 0b1110010111010011 = .rol 5 6 3 ∧
    decode 0b1110010111011011 = .asr 5 6 3 := by decide

theorem test_decode_rrtz_3 :
    decode 0b1110110111000011 = .lsli 5 6 3 ∧
    decode 0b1110110111001011 = .lsri 5 6 3 ∧
    decode 0b1110110111010011 = .roli 5 6 3 ∧
    decode 0b1110110111011011 = .asri 5 6 3 ∧
    decode 0b1111010111000011 = .muli 5 6 3 ∧
    decode 0b1111010111001011 = .muhi 5 6 3 ∧
    decode 0b1111010111010011 = .divi 5 6 3 ∧
    decode 0b1111010111011011 = .modi 5 6 3 := by decide

/-- Examples of spec/95_test_vectors.md Part 2, both directions (R86). -/
theorem test_encode :
    encode (decode 0x07FF) = 0x0000 ∧ encode (decode 0x3FFF) = 0x3801 ∧ encode (decode 0x2FFF) = 0x2F3F ∧ encode (decode 0x5F5F) = 0x5F40 ∧
    encode (decode 0x6B2F) = 0x6B28 ∧ encode (decode 0xFABF) = 0xFAB8 ∧ encode (decode 0xEFA1) = 0xEFA1 ∧
    encode (decode 0x1D5B) = 0x1D5B := by decide

theorem test_decodeTableWord : decodeTableWord 16 0x812A = some (.ldi 1 0x2A) := by decide

/-- The ROM bytes of program P1's first two words; an odd count is refused by name (spec/20_memory.md R57). -/
theorem test_rom :
    (match romImage [0x81, 0x05, 0x82, 0x00] with | .ok ws => ws | .error _ => []) = [0x8105, 0x8200] ∧
    (match romImage [0x81] with | .ok _ => none | .error e => some e) = some .oddLength := by decide

/-! ## One instruction by direct execution (spec/95_test_vectors.md Part 3) -/

theorem test_nop : run 0x0000 ready = some ready := by decide

theorem test_hlt0 : run 0x0800 { ready with pc := 0x21 } = some { ready with pc := 0x21, run := .stopped } := by decide

theorem test_hlt0_ignored_bits : run 0x0FFC ready = some { ready with run := .stopped } := by decide

theorem test_hlt1 : run 0x0801 { ready with pc := 0x21 } = some { ready with pc := 0x21, run := .paused } := by decide

theorem test_hlt1_direct_in_stopped_machine : run 0x0801 { ready with run := .stopped } = some { ready with run := .stopped } := by decide

theorem test_hlt0_direct_in_faulted_machine :
    directExec 0x0800 { ready with run := .faulted } = .fault .domainFault := rfl

theorem test_shift_above_7_direct_in_stopped_machine :
    directExec 0xE322 { ready with run := .stopped, regs := regs [0, 1, 8] } = .fault .domainFault := rfl

theorem test_shift_direct_in_stopped_machine :
    run 0xE322 { ready with run := .stopped, regs := regs [0, 0x81, 1] } =
      some { ready with run := .stopped, regs := regs [0, 0x81, 1, 2], sw := 0x01 } := by decide

theorem test_hlt2 : run 0x0802 ready = some { ready with run := .paused } := by decide

theorem test_hlt3 : run 0x0803 ready = some { ready with run := .paused } := by decide

theorem test_sys0 :
    run 0x1018 { ready with regs := regs [0x10] } =
      some { ready with loopStart := 0x10, loopEnd := 0x18 } := by decide

theorem test_sys1 : run 0x1105 ready = some { ready with loopCount := 5 } := by decide

theorem test_sys2 : run 0x1281 ready = some { ready with cw := 0x81 } := by decide

theorem test_sys2_user_mode : run 0x1281 { ready with sw := 0x40, cw := 0 } = some { ready with sw := 0x42, cw := 0 } := by decide

theorem test_sys3 : run 0x13FF ready = some { ready with sw := 0xFF } := by decide

theorem test_sys3_user_mode : run 0x1300 { ready with sw := 0x45, cw := 0 } = some { ready with sw := 0x47, cw := 0 } := by decide

theorem test_sys4 :
    run 0x1403 { ready with dirty := true, bank := [(5, 0xAB)] } =
      some { ready with page := 3, pool := [(5, 0xAB)] } := by decide

theorem test_sys4_same_page :
    run 0x1400 { ready with dirty := true, bank := [(5, 0xAB)] } =
      some { ready with dirty := true, bank := [(5, 0xAB)] } := by decide

theorem test_sys5 : run 0x1540 { ready with regs := regs [2] } = some { ready with vt := [(2, 0x40)] } := by decide

theorem test_sys5_user_mode :
    run 0x1540 { ready with regs := regs [2], cw := 0 } =
      some { ready with regs := regs [2], sw := 2, cw := 0 } := by decide

theorem test_sys6 : run 0x16FF ready = some { ready with mask := 0xFF } := by decide

theorem test_sys6_user_mode : run 0x16FF { ready with cw := 0x80 } = some { ready with sw := 2, cw := 0x80 } := by decide

theorem test_sys7 :
    run 0x17FF { ready with regs := regs [9], cw := 0 } =
      some { ready with regs := regs [9], cw := 0 } := by decide

theorem test_ldc :
    run 0x1AC1 { ready with sw := 0x80, cw := 5 } =
      some { ready with regs := regs [0, 0, 1], sw := 0x80, cw := 5 } := by decide

theorem test_ldc_not_taken : run 0x1A30 ready = some ready := by decide

theorem test_jmp : run 0x2100 { ready with pc := 0x11 } = some { ready with pc := 0x100 } := by decide

theorem test_jmp_page_jump : run 0x2400 { ready with cw := 3, pc := 0x123 } = some { ready with cw := 3 } := by decide

theorem test_brc : run 0x2A05 { ready with pc := 0x148 } = some { ready with pc := 0x145 } := by decide

theorem test_brc_not_taken :
    run 0x2A05 { ready with sw := 0x40, pc := 0x148 } =
      some { ready with sw := 0x40, pc := 0x148 } := by decide

theorem test_cal :
    run 0x3100 { ready with pc := 0x10 } =
      some { ready with pc := 0x100, csp := 1, cs := [(0, 0x10)] } := by decide

theorem test_cal_ring_wraps :
    run 0x3100 { ready with pc := 0x10, csp := 0x3F, cs := [(0, 0x1111)] } =
      some { ready with pc := 0x100, cs := [(0, 0x1111), (0x3F, 0x10)] } := by decide

theorem test_ret0 :
    run 0x3800 { ready with pc := 0x100, csp := 1, cs := [(0, 0x10)] } =
      some { ready with pc := 0x10, cs := [(0, 0x10)] } := by decide

theorem test_ret0_ring_wraps :
    run 0x3800 { ready with pc := 0x100, cs := [(0x3F, 0xBAD)] } =
      some { ready with pc := 0xBAD, csp := 0x3F, cs := [(0x3F, 0xBAD)] } := by decide

theorem test_ret1 :
    run 0x3801 { ready with pc := 0x200, csp := 2, cs := [(0, 0x10), (1, 0x105)] } =
      some { ready with pc := 0x10 } := by decide

theorem test_inp :
    run 0x4310 { ready with outLatch := [(0x10, 0xAB)] } =
      some { ready with regs := regs [0, 0, 0, 0xAB], outLatch := [(0x10, 0xAB)] } := by decide

theorem test_inp_dropped :
    run 0x4010 { ready with outLatch := [(0x10, 0xAB)] } =
      some { ready with outLatch := [(0x10, 0xAB)] } := by decide

theorem test_out :
    run 0x4910 { ready with regs := regs [0, 0xAB] } =
      some { ready with regs := regs [0, 0xAB], outLatch := [(0x10, 0xAB)] } := by decide

theorem test_out_clears_register_zero :
    run 0x4820 { ready with regs := regs [0x7E] } =
      some { ready with outLatch := [(0x20, 0x7E)] } := by decide

theorem test_lds :
    run 0x51A0 { ready with regs := regs [0, 0x77], sw := 0xA5, cw := 0x81, pc := 0x147, csp := 0x21, ap := 0x12 } =
      some { ready with regs := regs [0, 7], sw := 0xA5, cw := 0x81, pc := 0x147, csp := 0x21, ap := 0x12 } := by decide

theorem test_lds_call_stack_pointer :
    run 0x5120 { ready with regs := regs [0, 0x77], sw := 0xA5, cw := 0x81, pc := 0x147, csp := 0x21, ap := 0x12 } =
      some { ready with regs := regs [0, 0x21], sw := 0xA5, cw := 0x81, pc := 0x147, csp := 0x21, ap := 0x12 } := by decide

theorem test_sts :
    run 0x59E0 { ready with regs := regs [0, 0x80], pc := 0x148 } =
      some { ready with regs := regs [0, 0x80], pc := 0x8048 } := by decide

theorem test_sts_user_mode :
    run 0x5940 { ready with regs := regs [0, 0xFF], sw := 0x40, cw := 0 } =
      some { ready with regs := regs [0, 0xFF], sw := 0x42, cw := 0 } := by decide

theorem test_pop0 :
    run 0x6100 { ready with vsp := 1, pool := [(0xFFFF, 0x2A)] } =
      some { ready with regs := regs [0, 0x2A], page := 0xFF, pool := [(0xFFFF, 0x2A)], bank := [(0xFF, 0x2A)] } := by decide

theorem test_pop0_empty_stack : run 0x6100 ready = some { ready with sw := 2 } := by decide

theorem test_pop1 :
    run 0x6228 { ready with vsp := 2, page := 0xFF, dirty := true, bank := [(0xFE, 0x22), (0xFF, 0x11)] } =
      some { ready with regs := regs [0, 0, 0x11], vsp := 2, page := 0xFF, dirty := true, bank := [(0xFE, 0x22), (0xFF, 0x11)] } := by decide

theorem test_pop2 :
    run 0x6010 { ready with sw := 2, cw := 0, vsp := 1, page := 0xFF, dirty := true, bank := [(0xFF, 0x41)] } =
      some { ready with sw := 0x41, cw := 0, page := 0xFF, dirty := true, bank := [(0xFF, 0x41)] } := by decide

theorem test_pop3 :
    run 0x6018 { ready with vsp := 3, page := 7, pool := [(0xFFFD, 3), (0xFFFE, 2), (0xFFFF, 1)] } =
      some { ready with vsp := 2, page := 0xFF, pool := [(0xFFFD, 3), (0xFFFE, 2), (0xFFFF, 1)], bank := [(0xFD, 3), (0xFE, 2), (0xFF, 1)] } := by decide

theorem test_psh0 :
    run 0x6900 { ready with regs := regs [0, 0x2A] } =
      some { ready with regs := regs [0, 0x2A], vsp := 1, page := 0xFF, dirty := true, bank := [(0xFF, 0x2A)] } := by decide

theorem test_psh0_full_stack :
    run 0x6900 { ready with regs := regs [0, 0x2A], vsp := 0x10000 } =
      some { ready with regs := regs [0, 0x2A], sw := 2, vsp := 0x10000 } := by decide

theorem test_psh1 :
    run 0x6B28 { ready with regs := regs [0, 0, 0, 0x77], vsp := 2, page := 0xFF, dirty := true, bank := [(0xFE, 0x22), (0xFF, 0x11)] } =
      some { ready with regs := regs [0, 0, 0, 0x77], vsp := 2, page := 0xFF, dirty := true, bank := [(0xFE, 0x22), (0xFF, 0x77)] } := by decide

theorem test_psh1_empty_stack :
    run 0x6B08 { ready with regs := regs [0, 0, 0, 0x77] } =
      some { ready with regs := regs [0, 0, 0, 0x77], sw := 2 } := by decide

theorem test_psh2 :
    run 0x6810 { ready with sw := 0x41 } =
      some { ready with sw := 0x41, vsp := 1, page := 0xFF, dirty := true, bank := [(0xFF, 0x41)] } := by decide

theorem test_psh3 :
    run 0x6818 { ready with vsp := 1, page := 0xFF, dirty := true, bank := [(0xFE, 0x99)] } =
      some { ready with vsp := 2, page := 0xFF, dirty := true } := by decide

theorem test_mld :
    run 0x7105 { ready with ap := 0xFE, page := 3, bank := [(3, 0x99)] } =
      some { ready with regs := regs [0, 0x99], ap := 0xFE, page := 3, bank := [(3, 0x99)] } := by decide

theorem test_mst :
    run 0x793F { ready with regs := regs [0, 0xAB], ap := 0xFF, page := 2 } =
      some { ready with regs := regs [0, 0xAB], ap := 0xFF, page := 2, dirty := true, bank := [(0x3E, 0xAB)] } := by decide

theorem test_ldi : run 0x812A ready = some { ready with regs := regs [0, 0x2A] } := by decide

theorem test_ldi_register_zero : run 0x802A ready = some { ready with regs := regs [0x2A] } := by decide

theorem test_mov0 : run 0x8A20 { ready with regs := regs [0, 0x2A] } = some { ready with regs := regs [0, 0, 0x2A] } := by decide

theorem test_mov0_same_register : run 0x8920 { ready with regs := regs [0, 0x2A] } = some ready := by decide

theorem test_mov1 : run 0x8A08 { ready with regs := regs [0x2A] } = some { ready with regs := regs [0, 0, 0x2A] } := by decide

theorem test_mov2 : run 0x8A10 { ready with regs := regs [0x2A] } = some { ready with regs := regs [0x2A] } := by decide

theorem test_mov3 : run 0x8A38 { ready with regs := regs [0, 0x2A] } = some { ready with regs := regs [0, 0x2A] } := by decide

theorem test_adi : run 0x9101 { ready with regs := regs [0, 0xFF] } = some { ready with sw := 0x55 } := by decide

theorem test_adi_register_zero : run 0x9001 { ready with regs := regs [5] } = some { ready with sw := 4 } := by decide

theorem test_ani :
    run 0x990F { ready with regs := regs [0, 0x3A] } =
      some { ready with regs := regs [0, 0xA], sw := 4 } := by decide

theorem test_ori :
    run 0xA180 { ready with regs := regs [0, 0x2A] } =
      some { ready with regs := regs [0, 0xAA], sw := 0x84 } := by decide

theorem test_xri : run 0xA92A { ready with regs := regs [0, 0x2A] } = some { ready with sw := 0x44 } := by decide

theorem test_cpi :
    run 0xB130 { ready with regs := regs [0, 0x2A] } =
      some { ready with regs := regs [0, 0x2A], sw := 0x85 } := by decide

theorem test_tsi :
    run 0xB901 { ready with regs := regs [0, 0x2A] } =
      some { ready with regs := regs [0, 0x2A], sw := 0x44 } := by decide

theorem test_add :
    run 0xC322 { ready with regs := regs [0, 0x7F, 1] } =
      some { ready with regs := regs [0, 0x7F, 1, 0x80], sw := 0xB0 } := by decide

theorem test_adc :
    run 0xC32A { ready with regs := regs [0, 0xFF, 0xFF], sw := 1 } =
      some { ready with regs := regs [0, 0xFF, 0xFF, 0xFF], sw := 0x95 } := by decide

theorem test_vad :
    run 0xC332 { ready with regs := regs [0, 0x99, 0x99] } =
      some { ready with regs := regs [0, 0x99, 0x99, 0x22], sw := 0x35 } := by decide

theorem test_vac :
    run 0xC33A { ready with regs := regs [0, 0xF, 1], sw := 0x11 } =
      some { ready with regs := regs [0, 0xF, 1, 0x11], sw := 0x14 } := by decide

theorem test_sub :
    run 0xCB22 { ready with regs := regs [0, 0, 1] } =
      some { ready with regs := regs [0, 0, 1, 0xFF], sw := 0x95 } := by decide

theorem test_sbb : run 0xCB2A { ready with sw := 1 } = some { ready with regs := regs [0, 0, 0, 0xFF], sw := 0x95 } := by decide

theorem test_vsb :
    run 0xCB32 { ready with regs := regs [0, 0, 0x11] } =
      some { ready with regs := regs [0, 0, 0x11, 0xFF], sw := 0x95 } := by decide

theorem test_vsc : run 0xCB3A { ready with sw := 1 } = some { ready with regs := regs [0, 0, 0, 0xF0], sw := 0x85 } := by decide

theorem test_or :
    run 0xD300 { ready with regs := regs [0x5A] } =
      some { ready with regs := regs [0, 0, 0, 0x5A], sw := 4 } := by decide

theorem test_and :
    run 0xD32A { ready with regs := regs [0, 0xCA, 0xAC], sw := 0x3B } =
      some { ready with regs := regs [0, 0xCA, 0xAC, 0x88], sw := 0x8E } := by decide

theorem test_xor :
    run 0xD332 { ready with regs := regs [0, 0xCA, 0xAC], sw := 0x3B } =
      some { ready with regs := regs [0, 0xCA, 0xAC, 0x66], sw := 0xE } := by decide

theorem test_imp :
    run 0xD33A { ready with regs := regs [0, 0xCA, 0xAC], sw := 0x3B } =
      some { ready with regs := regs [0, 0xCA, 0xAC, 0xBD], sw := 0x8E } := by decide

theorem test_nor :
    run 0xDB22 { ready with regs := regs [0, 0xCA, 0xAC], sw := 0x3B } =
      some { ready with regs := regs [0, 0xCA, 0xAC, 0x11], sw := 0xE } := by decide

theorem test_nand :
    run 0xDB2A { ready with regs := regs [0, 0xCA, 0xAC], sw := 0x3B } =
      some { ready with regs := regs [0, 0xCA, 0xAC, 0x77], sw := 0xE } := by decide

theorem test_xnor :
    run 0xDB32 { ready with regs := regs [0, 0xCA, 0xAC], sw := 0x3B } =
      some { ready with regs := regs [0, 0xCA, 0xAC, 0x99], sw := 0x8E } := by decide

theorem test_nimp :
    run 0xDB3A { ready with regs := regs [0, 0xCA, 0xAC], sw := 0x3B } =
      some { ready with regs := regs [0, 0xCA, 0xAC, 0x42], sw := 0xE } := by decide

theorem test_lsl :
    run 0xE322 { ready with regs := regs [0, 0x81, 1] } =
      some { ready with regs := regs [0, 0x81, 1, 2], sw := 1 } := by decide

theorem test_lsl_domain_fault :
    run 0xE322 { ready with regs := regs [0, 0x81, 8] } =
      some { ready with regs := regs [0, 0x81, 8], run := .faulted } := by decide

theorem test_lsr :
    run 0xE32A { ready with regs := regs [0, 0x81, 1] } =
      some { ready with regs := regs [0, 0x81, 1, 0x40], sw := 1 } := by decide

theorem test_rol :
    run 0xE332 { ready with regs := regs [0, 0x81, 7] } =
      some { ready with regs := regs [0, 0x81, 7, 0xA0], sw := 0x84 } := by decide

theorem test_asr :
    run 0xE33A { ready with regs := regs [0, 0x81, 1] } =
      some { ready with regs := regs [0, 0x81, 1, 0xC0], sw := 0x85 } := by decide

theorem test_asr_domain_fault :
    run 0xE33A { ready with regs := regs [0, 0x81, 0xFF] } =
      some { ready with regs := regs [0, 0x81, 0xFF], run := .faulted } := by decide

theorem test_lsli :
    run 0xEB23 { ready with regs := regs [0, 0xA5] } =
      some { ready with regs := regs [0, 0xA5, 0, 0x28], sw := 5 } := by decide

theorem test_lsri :
    run 0xEB2B { ready with regs := regs [0, 0xA5] } =
      some { ready with regs := regs [0, 0xA5, 0, 0x14], sw := 5 } := by decide

theorem test_roli :
    run 0xEB32 { ready with regs := regs [0, 0xA5] } =
      some { ready with regs := regs [0, 0xA5, 0, 0x95], sw := 0x84 } := by decide

theorem test_asri :
    run 0xEB39 { ready with regs := regs [0, 0xA5] } =
      some { ready with regs := regs [0, 0xA5, 0, 0xD2], sw := 0x85 } := by decide

theorem test_muli :
    run 0xF327 { ready with regs := regs [0, 0x64], sw := 0x3B } =
      some { ready with regs := regs [0, 0x64, 0, 0xBC], sw := 0x8A } := by decide

theorem test_muhi :
    run 0xF32D { ready with regs := regs [0, 0x64, 0, 0x33] } =
      some { ready with regs := regs [0, 0x64, 0, 1] } := by decide

theorem test_divi :
    run 0xF337 { ready with regs := regs [0, 0x64, 0, 0x33] } =
      some { ready with regs := regs [0, 0x64, 0, 0xE] } := by decide

theorem test_modi :
    run 0xF33F { ready with regs := regs [0, 0x64, 0, 0x33] } =
      some { ready with regs := regs [0, 0x64, 0, 2] } := by decide

theorem test_sqrt :
    run 0xFB20 { ready with regs := regs [0, 0x64, 0, 0x33] } =
      some { ready with regs := regs [0, 0x64, 0, 0xA], sw := 4 } := by decide

theorem test_clz :
    run 0xFB28 { ready with regs := regs [0, 0x10, 0, 0x33] } =
      some { ready with regs := regs [0, 0x10, 0, 3], sw := 4 } := by decide

theorem test_ctz :
    run 0xFB30 { ready with regs := regs [0, 0x10, 0, 0x33] } =
      some { ready with regs := regs [0, 0x10, 0, 4] } := by decide

theorem test_popc :
    run 0xFB38 { ready with regs := regs [0, 0xA5, 0, 0x33] } =
      some { ready with regs := regs [0, 0xA5, 0, 4] } := by decide

/-- Division by zero: `E` and the reserved bit are as the spec says, whatever the free values are. -/
theorem test_divi_by_zero : (run 0xF330 { ready with regs := regs [0, 0x64], sw := 0xFD }).map
    (fun t => (swE t.sw, swR3 t.sw, t.reg 1, t.draws)) = some (true, true, 0x64, 1) := by
  show some (swE (div0Sw 0xFD (Config.div0Flags 0)), swR3 (div0Sw 0xFD (Config.div0Flags 0)), (0x64 : Byte), 1) = _
  generalize Config.div0Flags 0 = f
  revert f
  decide

/-- OUT to a bound port hands the write to the device (spec/20_memory.md R61). -/
theorem test_out_bound :
    run 0x4B11 { bound with regs := regs [0, 0, 0, 8] } =
      some { bound with regs := regs [0, 0, 0, 8], outLatch := [(17, 8)], deviceCalls := [.write 1 1 8] } := by decide

/-! ## One tick (spec/95_test_vectors.md Part 4 and 5; spec/60_exceptions.md R277, R278, R284) -/

/-- The common start of Part 4. -/
def irqStart : State := { ready with pc := 0x123, cw := 0x81, vt := [(1, 0x50), (2, 0x40)] }

theorem test_interrupt_not_served :
    tick { irqStart with pend := [⟨5, 2⟩], act := [⟨5, 0⟩] } =
      some { irqStart with pend := [⟨5, 2⟩], act := [⟨5, 0⟩], pc := 0x124, ipage := 4 } := by decide

theorem test_interrupt_served :
    tick { irqStart with pend := [⟨7, 2⟩], act := [⟨5, 0⟩] } =
      some { irqStart with pc := 0x41, ipage := 1, csp := 1, cs := [(0, 0x123)], act := [⟨7, 2⟩, ⟨5, 0⟩] } := by decide

theorem test_interrupt_vector_mod_16 : (tick { irqStart with pend := [⟨7, 18⟩] }).map (fun t => (t.pc, t.act)) = some (0x41, [⟨7, 18⟩]) := by
  decide

theorem test_faulted_step : tick { ready with run := .faulted } = none := by decide

theorem test_paused_step : tick State.reset = some State.reset := by decide

theorem test_environment :
    tick { State.reset with inputs := [[.start, .irqRequest ⟨3, 1⟩, .portNotify 0xFF 9]] } =
      some { ready with pc := 1, pend := [⟨3, 1⟩], inLatch := [(255, 9)] } := by decide

/-- The word placed by `withFetchWord` is the next one executed. -/
theorem test_withFetchWord :
    (tick (State.reset.withFetchWord 16 0x812A)).map (fun t => (t.reg 1, t.pc)) = some (0x2A, 1) ∧
    (tick (({ irqStart with pend := [⟨7, 2⟩] } : State).withFetchWord 16 0x812A)).map (fun t => (t.reg 1, t.pc)) = some (0x2A, 0x41) := by
  decide

/-- The first ticks of program P1. -/
theorem test_program_start :
    ((tick { State.reset.flash [0x8105, 0x8200, 0xC241] with run := .running }).bind tick).map (fun t => (t.reg 1, t.reg 2, t.pc)) =
      some (5, 0, 2) := by decide

/-! ## Witnesses: a concrete state and operands that meet the hypotheses of each statement -/

/-- A running machine whose data bank is dirty and whose stack is full. -/
def full : State := { ready with regs := regs [0, 0, 0, 8], vsp := 65536, dirty := true, bank := [(3, 0x99)] }

/-- A running machine with user mode, interrupts on, one active entry of priority 5 and a request of priority `p` on top. -/
def requested (p : Byte) : State :=
  { ready with cw := 0x80, pc := 0x123, vt := [(2, 0x40)], pend := [⟨p, 18⟩], act := [⟨5, 0⟩], ipool := [(0x40, 0x812A)] }

/-- A clean, empty bank agrees with an empty pool. -/
theorem witness_bank_clean : ready.bankAgrees := fun _ _ => rfl

theorem witness_bank_dirty : full.bankAgrees := fun h => absurd h (by decide)

/-- A machine that has flashed a word to page 1 and cached page 0. -/
def flashed : State := { ready with ipool := [(64, 0x812A)] }

theorem witness_cache : flashed.cacheAgrees := by unfold State.cacheAgrees; decide

theorem witness_other_cache : ({ flashed with icache := [(0, 0x812A)], ipage := 1 } : State).cacheAgrees := by
  unfold State.cacheAgrees; decide

theorem witness_EncodeInvertsDecodeOnFields :
    (⟨24, 3, 7, 7, 7, 0⟩ : Fields).wf (classOf 24) = true ∧ (⟨4, 0, 0x7FF, 0, 0, 5⟩ : Fields).wf (classOf 4) = true ∧
    (⟨5, 0, 7, 63, 0, 0⟩ : Fields).wf (classOf 5) = true ∧ (⟨0, 0, 0, 0, 0, 0⟩ : Fields).wf (classOf 0) = true ∧
    (⟨1, 3, 0, 0, 0, 0⟩ : Fields).wf (classOf 1) = true ∧ (⟨7, 1, 0, 0, 0, 0⟩ : Fields).wf (classOf 7) = true ∧
    (⟨16, 0, 7, 255, 0, 0⟩ : Fields).wf (classOf 16) = true ∧ (⟨3, 0, 7, 7, 31, 0⟩ : Fields).wf (classOf 3) = true ∧
    (⟨10, 0, 7, 7, 0, 0⟩ : Fields).wf (classOf 10) = true ∧ (⟨12, 3, 7, 7, 0, 0⟩ : Fields).wf (classOf 12) = true := by decide

theorem witness_EveryWordMatchesExactlyItsRow :
    (0x07FF : Word) &&& Instr.nop.row.1 = Instr.nop.row.2 ∧ (0xFFFF : Word) &&& (Instr.popc 0 0).row.1 = (Instr.popc 0 0).row.2 := by
  decide

theorem witness_StepRunsTheDecodedInstruction :
    let s : State := { State.reset with inputs := [[.start]], ipool := [(0, 0x812A)], icache := [(0, 0x812A)] }
    s.takeInputs.run = .running ∧ decode s.takeInputs.fetchedWord = .ldi 1 0x2A := by decide

theorem witness_StepFetchesFromTheInstructionStore :
    let s : State := { flashed with pc := 64 }
    s.run = .running ∧ s.inputs = [] ∧ s.pend = [] ∧ s.cacheAgrees ∧ decode (s.ipool.read s.pc.toNat) = .ldi 1 0x2A :=
  ⟨rfl, rfl, rfl, witness_cache, by decide⟩

theorem witness_StepOutcomesFollowTheRunState :
    ({ ready with run := .faulted } : State).takeInputs.run = .faulted ∧ State.reset.takeInputs.run = .paused ∧
    ({ ready with inputs := [[.stop]] } : State).takeInputs.run = .stopped ∧ ready.takeInputs.run = .running ∧
    ({ ready with run := .stopped, inputs := [[.start]] } : State).takeInputs.run = .stopped ∧
    ({ ready with run := .faulted, inputs := [[.stop, .start]] } : State).takeInputs.run = .faulted ∧
    run 0x0801 { ready with run := .paused } = some { ready with run := .paused } := by decide

theorem witness_StepKeepsTheMachineInvariant :
    ∃ s t : State, s.Inv ∧ step s = .next t ∧ t.pc = 65 ∧ t.reg 1 = 0x2A :=
  ⟨{ flashed with pc := 64 }, _, ⟨⟨rfl, rfl, rfl, rfl, rfl, rfl, rfl, rfl⟩, by decide, fun _ _ => rfl, witness_cache⟩, rfl, by decide, by decide⟩

theorem witness_UserModeIsNeverLeft :
    let s : State := { flashed with cw := 0x80, pc := 64 }
    s.userMode ∧ ∃ t, step s = .next t := ⟨rfl, _, rfl⟩

theorem witness_InstructionCacheIsInvisible :
    let s : State := { flashed with pc := 64 }
    let s' : State := { s with icache := [(0, 0x812A)], ipage := 1 }
    SameButCache s s' ∧ s.cacheAgrees ∧ s'.cacheAgrees ∧ s ≠ s' ∧ ∃ t, step s = .next t :=
  ⟨rfl, witness_cache, witness_other_cache, by decide, _, rfl⟩

theorem witness_FlashLoadsTheWholeStore :
    ([] : List Word).length ≤ 65536 ∧ (List.replicate 65536 (0x812A : Word)).length ≤ 65536 :=
  ⟨by decide, List.length_replicate.le⟩

theorem witness_ControlRegistersHaveTheseWritersOnly :
    (∃ t, exec (.sys2 0) ready = .next t ∧ t.cw ≠ ready.cw) ∧ (∃ t, exec (.sys6 1) ready = .next t ∧ t.mask ≠ ready.mask) ∧
    (∃ t, exec (.sys5 1) ready = .next t ∧ t.vt ≠ ready.vt) ∧ (∃ t, exec (.sts 3 0) regs3 = .next t ∧ t.ap ≠ regs3.ap) ∧
    (∃ t, exec (.cal 1) ready = .next t ∧ t.csp ≠ ready.csp) ∧ (∃ t, exec (.cal 1) irqStart = .next t ∧ t.cs ≠ irqStart.cs) ∧
    (∃ t, exec (.sys0 1) ready = .next t ∧ t.loopEnd ≠ ready.loopEnd) ∧
    (∃ t, exec (.sys1 1) ready = .next t ∧ t.loopCount ≠ ready.loopCount) ∧
    (∃ t, exec (.sts 3 4) regs3 = .next t ∧ t.loopPtr ≠ regs3.loopPtr) ∧
    (∃ t, exec (.psh3 0 0) ready = .next t ∧ t.vsp ≠ ready.vsp) ∧ (∃ t, exec (.sts 3 7) regs3 = .next t ∧ t.pc ≠ regs3.pc) ∧
    (∃ t, exec (.lsl 1 2 3) regs3 = .next t ∧ t.run ≠ regs3.run) := by
  refine ⟨⟨_, rfl, ?_⟩, ⟨_, rfl, ?_⟩, ⟨_, rfl, ?_⟩, ⟨_, rfl, ?_⟩, ⟨_, rfl, ?_⟩, ⟨_, rfl, ?_⟩, ⟨_, rfl, ?_⟩, ⟨_, rfl, ?_⟩, ⟨_, rfl, ?_⟩,
    ⟨_, rfl, ?_⟩, ⟨_, rfl, ?_⟩, ⟨_, rfl, ?_⟩⟩ <;> decide

theorem witness_MemoriesAndPortsHaveTheseWritersOnly :
    (∃ t, exec (.sys4 1) full = .next t ∧ t.page ≠ full.page ∧ t.pool ≠ full.pool) ∧
    (∃ t, exec (.mst 3 0) regs3 = .next t ∧ t.bank ≠ regs3.bank ∧ t.dirty ≠ regs3.dirty) ∧
    (∃ t, exec (.out 3 0xFF) regs3 = .next t ∧ t.outLatch ≠ regs3.outLatch) ∧
    (∃ t, exec (.inp 3 17) bound = .next t ∧ t.draws ≠ bound.draws) ∧
    (∃ t, exec (.divi 1 3 0) regs3 = .next t ∧ t.draws ≠ regs3.draws) ∧
    (∃ t, exec (.out 3 17) bound = .next t ∧ t.deviceCalls ≠ bound.deviceCalls) := by
  refine ⟨⟨_, rfl, ?_⟩, ⟨_, rfl, ?_⟩, ⟨_, rfl, ?_⟩, ⟨_, rfl, ?_⟩, ⟨_, rfl, ?_⟩, ⟨_, rfl, ?_⟩⟩
  · decide
  · decide
  · decide
  · rw [Laws.writeReg_draws]
    show (State.deviceRead bound ⟨1, 16, 2⟩ 17).draws ≠ 0
    exact Nat.succ_ne_zero 0
  · exact Nat.succ_ne_self 0
  · decide

theorem witness_MemoryChangesOnlyWhereAStoreAddresses :
    (∃ t, regs3.bankAgrees ∧ exec (.psh0 3 0) regs3 = .next t ∧ t.mem 0xFFFF ≠ regs3.mem 0xFFFF) ∧
    (∃ t, full.bankAgrees ∧ exec (.psh1 3 0) full = .next t ∧ t.mem 0 ≠ full.mem 0) ∧
    (∃ t, regs3.bankAgrees ∧ exec (.mst 3 63) regs3 = .next t ∧ t.mem 63 ≠ regs3.mem 63) :=
  ⟨⟨_, fun _ _ => rfl, rfl, by decide⟩, ⟨_, witness_bank_dirty, rfl, by decide⟩, ⟨_, fun _ _ => rfl, rfl, by decide⟩⟩

theorem witness_RegisterZeroIsLoadedByLdiAndLdcOnly :
    (∃ t, exec (.ldi 0 0xFF) ready = .next t ∧ t.reg 0 ≠ ready.reg 0) ∧
    (ready.cond 0 = true ∧ ∃ t, exec (.ldc 0 0 31) ready = .next t) ∧
    (∃ t, exec (.adi 0 1) { ready with regs := regs [5] } = .next t ∧ t.reg 0 ≠ 5) :=
  ⟨⟨_, rfl, by decide⟩, ⟨by decide, _, rfl⟩, ⟨_, rfl, by decide⟩⟩

theorem witness_OnlyAluOperationsWriteTheFlags :
    (∃ t, exec (.pop0 1 0) ready = .next t ∧ LeavesFlags (.pop0 1 0) ∧ t.sw ≠ ready.sw) ∧
    (∃ t, exec (.sts 3 7) user = .next t ∧ LeavesFlags (.sts 3 7) ∧ t.sw ≠ user.sw) ∧ (∃ t, exec (.sys2 1) user = .next t ∧
      LeavesFlags (.sys2 1) ∧ t.sw ≠ user.sw) ∧ (∃ t, exec (.sys3 8) ready = .next t ∧ swR3 t.sw ≠ swR3 ready.sw) :=
  ⟨⟨_, rfl, trivial, by decide⟩, ⟨_, rfl, by unfold LeavesFlags; decide, by decide⟩, ⟨_, rfl, trivial, by decide⟩,
    ⟨_, rfl, by decide⟩⟩

theorem witness_ErrorFlagIsSetForTheseCausesOnly :
    (∃ t, exec (.sys3 2) ready = .next t ∧ swE ready.sw = false ∧ swE t.sw = true) ∧
    (∃ t, exec (.sts 1 7) user = .next t ∧ Gated (.sts 1 7) ∧ user.kernel = false ∧ swE user.sw = false ∧ swE t.sw = true) ∧
    (∃ t, exec (.psh3 0 0) full = .next t ∧ OutOfBounds (.psh3 0 0) full ∧ swE full.sw = false ∧ swE t.sw = true) ∧
    (∃ t, exec (.pop3 0 0) ready = .next t ∧ OutOfBounds (.pop3 0 0) ready ∧ swE t.sw = true) ∧
    (∃ t, exec (.modi 1 2 0) ready = .next t) :=
  ⟨⟨_, rfl, by decide, by decide⟩, ⟨_, rfl, .inr ⟨1, 7, rfl, by decide⟩, by decide, by decide, by decide⟩,
    ⟨_, rfl, .inr ⟨0, 0, .inr (.inr rfl), by decide⟩, by decide, by decide⟩,
    ⟨_, rfl, .inl ⟨0, 0, .inr (.inr (.inr (.inl rfl))), by decide⟩, by decide⟩, ⟨_, rfl⟩⟩

theorem witness_ErrorFlagIsSticky :
    let s : State := { ready with sw := 0x02, ipool := [(0, 0x1300)], icache := [(0, 0x1300)] }
    ∃ t, step s = .next t ∧ swE s.sw = true ∧ swE t.sw = false := ⟨_, rfl, by decide, by decide⟩

theorem witness_InterruptCheckServesTheTopRequest :
    ready.pend = [] ∧ (requested 6).pend = ⟨6, 18⟩ :: [] ∧ Serves (requested 6) ⟨6, 18⟩ ∧ ¬ Serves (requested 5) ⟨5, 18⟩ ∧
    ¬ Serves { requested 6 with cw := 1 } ⟨6, 18⟩ ∧ Serves { requested 0 with act := [] } ⟨0, 18⟩ := by
  refine ⟨rfl, rfl, ⟨rfl, ?_⟩, fun h => ?_, fun h => ?_, ⟨rfl, ?_⟩⟩
  · rintro _ _ ⟨⟩; decide
  · exact absurd (h.2 _ _ rfl) (by decide)
  · exact absurd h.1 (by decide)
  · rintro _ _ ⟨⟩

theorem witness_InterruptedStepRunsTheHandlersFirstInstruction :
    (requested 6).run = .running ∧ (requested 6).inputs = [] ∧ (requested 6).cacheAgrees ∧ (requested 6).pend = ⟨6, 18⟩ :: [] ∧
    Serves (requested 6) ⟨6, 18⟩ := by
  refine ⟨rfl, rfl, ?_, rfl, witness_InterruptCheckServesTheTopRequest.2.2.1⟩
  unfold State.cacheAgrees; decide

theorem witness_ReturnFromInterruptResumesAtThePushedAddress :
    (Entered (requested 6) (requested 6).checkInterrupt ⟨6, 18⟩ [] ∧
      SameButCache (requested 6).checkInterrupt ((requested 6).checkInterrupt.loadInstrPage 0x40)) ∧
    (let s := { requested 6 with ipool := [(0x40, 0x3800)] }
     s.run = .running ∧ s.inputs = [] ∧ s.cacheAgrees ∧ s.pend = ⟨6, 18⟩ :: [] ∧ Serves s ⟨6, 18⟩ ∧
      decode (s.ipool.read (Memory.read s.vt ((18 : Byte).toNat % 16)).toNat) = .ret0) := by
  refine ⟨⟨⟨rfl, rfl, fun k hk => Laws.read_write_other [] 0 k 0x123 hk, rfl, fun _ => rfl⟩, rfl⟩, rfl, rfl, ?_, rfl,
    witness_InterruptCheckServesTheTopRequest.2.2.1, by decide⟩
  unfold State.cacheAgrees; decide

theorem witness_EnvironmentEventsDoWhatTheRulesSay :
    let s : State := { State.reset with act := [⟨5, 0⟩], inputs := [⟨3, 1⟩, ⟨4, 2⟩].map EnvEvent.irqRequest :: [[.activePop], [.start]] }
    s.run = .paused ∧ s.inputs = [⟨3, 1⟩, ⟨4, 2⟩].map EnvEvent.irqRequest :: [[.activePop], [.start]] ∧
    (step s = .next { s with pend := [⟨4, 2⟩, ⟨3, 1⟩], inputs := [[.activePop], [.start]] }) ∧
    ({ s with inputs := [[.activePop]] } : State).inputs = [EnvEvent.activePop] :: [] ∧
    ready.run = .running ∧ ready.run ≠ .paused ∧ s.run ≠ .running ∧ s.run ≠ .faulted ∧
    ({ ready with run := .faulted } : State).run = .faulted := by
  refine ⟨rfl, rfl, rfl, rfl, rfl, ?_, ?_, ?_, rfl⟩ <;> decide

theorem witness_NoOperationsChangeNothing :
    (0x07FF : Word) &&& 0xF800 = 0x0000 ∧ (0x17FF : Word) &&& 0xFF00 = 0x1700 ∧ (0x8FFF : Word) &&& 0xF810 = 0x8810 := by decide

theorem witness_HaltStopsOrPauses : ready.inputs = [] := rfl

theorem witness_SysWritesItsTargetInKernelMode : ready.kernel = true ∧ 15 < 16 := by decide

theorem witness_GatedOperationsAreRefusedInUserMode :
    Gated (.sys2 0xFF) ∧ Gated (.sys3 0) ∧ Gated (.sys5 0) ∧ Gated (.sys6 0) ∧ Gated (.sts 0 2) ∧ Gated (.sts 7 3) ∧ Gated (.sts 1 5) ∧
    Gated (.sts 1 6) ∧ Gated (.sts 1 7) ∧ user.kernel = false := by
  refine ⟨.inl ⟨_, .inl rfl⟩, .inl ⟨_, .inr (.inl rfl)⟩, .inl ⟨_, .inr (.inr (.inl rfl))⟩, .inl ⟨_, .inr (.inr (.inr rfl))⟩,
    .inr ⟨_, _, rfl, ?_⟩, .inr ⟨_, _, rfl, ?_⟩, .inr ⟨_, _, rfl, ?_⟩, .inr ⟨_, _, rfl, ?_⟩, .inr ⟨_, _, rfl, ?_⟩, rfl⟩ <;> decide

theorem witness_SetPageWritesBackADirtyBank :
    (0 : Byte) = full.page ∧ (1 : Byte) ≠ full.page ∧ (255 : Byte) ≠ ready.page ∧ full.bankAgrees ∧ ready.bankAgrees :=
  ⟨rfl, by decide, by decide, witness_bank_dirty, witness_bank_clean⟩

theorem witness_ConditionalLoadFollowsTheConditionTable :
    Holds (ready.cw.getLsbD 2) 0 ready.sw ∧ ¬ Holds (ready.cw.getLsbD 2) 7 ready.sw ∧ Holds (alternate.cw.getLsbD 2) 7 alternate.sw ∧
    ¬ Holds (alternate.cw.getLsbD 2) 0 alternate.sw := by
  refine ⟨?_, ?_, ?_, ?_⟩ <;> (unfold Holds; decide)

theorem witness_JumpsBranchesAndCallsReachTheirTargets :
    Holds (ready.cw.getLsbD 2) 2 ready.sw ∧ ¬ Holds (ready.cw.getLsbD 2) 1 ready.sw := by
  refine ⟨?_, ?_⟩ <;> (unfold Holds; decide)

theorem witness_CallStackIsARingThatWrapsSilently :
    (List.replicate 64 (0x1234 : Word)).length = 64 ∧ ready.csp = 0 ∧ 63 < 64 := by simp [ready, State.reset]

theorem witness_UnboundPortEchoesItsOutputLatch : bound.deviceAt 15 = none ∧ bound.deviceAt 18 = none ∧ (7 : RegIx) ≠ 0 := by decide

theorem witness_BoundPortDeliversItsInputLatch :
    bound.deviceAt 16 = some ⟨1, 16, 2⟩ ∧ bound.deviceAt 17 = some ⟨1, 16, 2⟩ ∧ (15 : Byte) ≠ 16 ∧
    (Config.deviceReply bound.draws bound.deviceCalls 1 0 = none ∨
      ∃ v, Config.deviceReply bound.draws bound.deviceCalls 1 0 = some v) :=
  ⟨by decide, by decide, by decide, (Option.eq_none_or_eq_some _).imp id fun h => h⟩

theorem witness_BoundPortHandsTheWriteToItsDevice :
    bound.deviceAt 16 = some ⟨1, 16, 2⟩ ∧ bound.deviceAt 17 = some ⟨1, 16, 2⟩ ∧ (7 : RegIx) ≠ 0 := by decide

theorem witness_InternalStoresReachTheirTarget :
    regs3.kernel = true ∧ (5 : BitVec 3) = 5 ∧ 8 = regs3.pc.toNat / 64 * 64 + (regs3.reg 3).toNat % 64 ∧
    8 = regs3.pc.toNat / 256 * 256 + (regs3.reg 3).toNat ∧ 0x800 = (regs3.reg 3).toNat * 256 + regs3.pc.toNat % 256 := by decide

theorem witness_PopDeliversTheAddressedByte :
    (ready.bankAgrees ∧ full.bankAgrees) ∧
    (1 ≤ 65536 ∧ 1 + (0 : BitVec 3).toNat ≤ 1 ∧ slotAddr (1 - 1 - (0 : BitVec 3).toNat) = 0xFFFF) ∧
    (8 ≤ 65536 ∧ 1 + (7 : BitVec 3).toNat ≤ 8 ∧ slotAddr (8 - 1 - (7 : BitVec 3).toNat) = 0xFFFF) ∧
    (full.vsp ≤ 65536 ∧ 1 + (0 : BitVec 3).toNat ≤ full.vsp ∧ slotAddr (full.vsp - 1 - (0 : BitVec 3).toNat) = 0x0000) :=
  ⟨⟨witness_bank_clean, witness_bank_dirty⟩, by decide, by decide, by decide⟩

theorem witness_PushStoresAtTheNextSlot :
    ({ full with vsp := 65528 } : State).bankAgrees ∧ ({ full with vsp := 65528 } : State).vsp + (7 : BitVec 3).toNat ≤ 65535 ∧
    slotAddr (({ full with vsp := 65528 } : State).vsp + (7 : BitVec 3).toNat) = 0x0000 ∧
    ready.bankAgrees ∧ ready.vsp + (0 : BitVec 3).toNat ≤ 65535 ∧ slotAddr (ready.vsp + (0 : BitVec 3).toNat) = 0xFFFF :=
  ⟨witness_bank_dirty, by decide, by decide, witness_bank_clean, by decide, by decide⟩

theorem witness_PokeOverwritesTheAddressedByte :
    full.bankAgrees ∧ full.vsp ≤ 65536 ∧ 1 + (7 : BitVec 3).toNat ≤ full.vsp ∧ slotAddr (full.vsp - 1 - (7 : BitVec 3).toNat) = 0x0007 :=
  ⟨witness_bank_dirty, by decide, by decide, by decide⟩

theorem witness_StackBoundsSetTheErrorFlag :
    ready.vsp < 1 + (0 : BitVec 3).toNat ∧ ({ ready with vsp := 7 } : State).vsp < 1 + (7 : BitVec 3).toNat ∧
    65535 < full.vsp + (0 : BitVec 3).toNat ∧ 65535 < ({ ready with vsp := 65529 } : State).vsp + (7 : BitVec 3).toNat := by decide

theorem witness_StackHoldsSixtyFourKibibytes :
    ready.bankAgrees ∧ ready.vsp = 0 ∧ (List.replicate 65536 (7 : Byte)).length ≤ 65536 ∧
    (List.replicate 65536 (7 : Byte)).length = 65536 ∧ 65535 - (0 : Word).toNat < (List.replicate 65536 (7 : Byte)).length ∧
    ([] : List Byte).length ≤ 65535 - (0xFFFF : Word).toNat :=
  ⟨witness_bank_clean, rfl, List.length_replicate.le, List.length_replicate,
    List.length_replicate.symm ▸ (by decide : 65535 - (0 : Word).toNat < 65536), by decide⟩

theorem witness_MemoryLoadReadsTheResidentPage :
    ({ full with ap := 0xC4 } : State).page ++ ({ full with ap := 0xC4 } : State).bankOffset 63 = (0x0003 : Word) := by decide

theorem witness_MemoryStoreWritesTheResidentPage :
    ({ full with page := 2, ap := 0xFF } : State).page ++ ({ full with page := 2, ap := 0xFF } : State).bankOffset 63 =
      (0x023E : Word) := by decide

theorem witness_StoreSurvivesAPageRoundTrip : (1 : RegIx) ≠ 0 := by decide

theorem witness_LoadsAndMovesWriteTheirDestination : (1 : RegIx) ≠ 0 ∧ (1 : RegIx) ≠ 2 := by decide

theorem witness_ShiftsByRegisterOrImmediate :
    (second { ready with regs := regs [0, 0x81, 7] } 1 2).toNat ≤ 7 ∧ (second { ready with regs := regs [9] } 0 0).toNat ≤ 7 := by decide

theorem witness_ShiftUnitOnZeroAndLogicalShifts :
    second ready 1 2 = 0 ∧ second { ready with regs := regs [9] } 0 0 = 0 ∧ 1 ≤ 1 ∧ 1 ≤ 7 ∧ 7 ≤ 7 := by decide

theorem witness_ShiftByMoreThanSevenIsADomainFault :
    7 < (second regs3 2 3).toNat ∧ 7 < (second { ready with regs := regs [255, 1] } 1 0).toNat ∧ regs3.inputs = [] := by decide

theorem witness_MultiplyAndDivideByImmediate : (1 : BitVec 3) ≠ 0 ∧ (7 : BitVec 3) ≠ 0 := by decide

theorem witness_WholeStatusWordIsReadBackAsWritten :
    (7 : RegIx) ≠ 0 ∧ ready.kernel = true ∧ user.kernel = false ∧ 1 ≤ full.vsp ∧ ready.bankAgrees ∧ ready.vsp ≤ 65535 ∧
    ({ full with vsp := 65535 } : State).bankAgrees ∧ ({ full with vsp := 65535 } : State).vsp ≤ 65535 :=
  ⟨by decide, rfl, rfl, by decide, witness_bank_clean, by decide, witness_bank_dirty, by decide⟩

end Sys2Proof.Tests
end

/-! PROOFS. What the execution of one instruction can come to, said once for all 76 of them (`Effect`), and what one tick can come to
(`step_cases`). The proofs about every instruction or every step go through these two and do not look into `exec` again. -/

namespace Sys2Proof.Proofs

open Sys2Proof.Machine Sys2Proof.Laws Sys2Proof.Spec

/-! ## Register 0 under operand reads and normal writes (spec/10_state.md R12, R13) -/

/-- Among the general registers `rs`, register 0 is as it was in `s` or cleared. -/
def ZeroKeptOrCleared (s : State) (rs : Regs) : Prop := rs.get 0 = s.reg 0 ∨ rs.get 0 = 0

theorem zero_same (s : State) : ZeroKeptOrCleared s s.regs := .inl rfl

/-- A normal write never touches register 0. -/
theorem writeReg_reg_zero (s : State) (x : RegIx) (v : Byte) : (s.writeReg x v).reg 0 = s.reg 0 := by
  rw [reg_writeReg, if_neg]
  rintro ⟨rfl, h⟩
  exact h rfl

theorem zero_writeReg {s t : State} (x : RegIx) (v : Byte) (h : ZeroKeptOrCleared s t.regs) :
    ZeroKeptOrCleared s (t.writeReg x v).regs := by
  have : (t.writeReg x v).regs.get 0 = t.regs.get 0 := writeReg_reg_zero t x v
  unfold ZeroKeptOrCleared
  rwa [this]

theorem zero_readReg {s t : State} (x : RegIx) (h : ZeroKeptOrCleared s t.regs) :
    ZeroKeptOrCleared s (t.readReg x).st.regs := by
  have hr : (t.readReg x).st.regs.get 0 = if x = 0 ∧ (0 : RegIx) = 0 then 0 else t.reg 0 := reg_readReg t x 0
  unfold ZeroKeptOrCleared
  rw [hr]
  split
  · exact .inr rfl
  · exact h

/-! ## The error flag and the reserved bit under the units (spec/45_alu.md R190) -/

/-- The error flag and the reserved bit of a status word are as in the old one. -/
def KeepsErrorAndReserved (old new : Byte) : Prop := swE new = swE old ∧ swR3 new = swR3 old

theorem keeps_flagsOf (sw : Byte) (c a v : Bool) (r : Byte) : KeepsErrorAndReserved sw (flagsOf sw c a v r) :=
  ⟨flagsOf_E sw c a v r, flagsOf_r3 sw c a v r⟩

theorem keeps_shiftOut (sw a : Byte) (n : Nat) (r : Byte) (c : Bool) :
    KeepsErrorAndReserved sw (shiftOut sw a n r c).sw :=
  ⟨shiftOut_E sw a n r c, shiftOut_r3 sw a n r c⟩

/-! ## Updates of the general registers commute with the bank window -/

theorem setPage_with_regs (s : State) (rs : Regs) (p : Byte) :
    ({ s with regs := rs } : State).setPage p = { s.setPage p with regs := rs } := by
  unfold State.setPage; split <;> rfl

theorem memWrite_with_regs (s : State) (rs : Regs) (a : Word) (v : Byte) :
    ({ s with regs := rs } : State).memWrite a v = { s.memWrite a v with regs := rs } := by
  unfold State.memWrite; rw [setPage_with_regs]; rfl

/-! ## The effect of an instruction -/

/-- `Effect s i t`: executing `i` from `s` may lead to `t`. The cases say every piece of state that changed and for which
instructions; `rs` stands for the general registers afterwards, of which the cases say what becomes of register 0. -/
inductive Effect (s : State) : Instr → State → Prop
  /-- Nothing but general registers is written, and those not directly. -/
  | move {i : Instr} (rs : Regs) (hi : LeavesFlags i) (h0 : ZeroKeptOrCleared s rs) : Effect s i { s with regs := rs }
  /-- The direct write of LDI and of LDC (spec/10_state.md R14). -/
  | load {i : Instr} (x : RegIx) (v : Byte) (hi : (∃ w, i = .ldi x w) ∨ ∃ c w, i = .ldc x c w) :
      Effect s i { s with regs := s.regs.set x v }
  /-- An ALU operation: general registers and the six result flags. -/
  | compute {i : Instr} (rs : Regs) (w : Byte) (hi : ¬ LeavesFlags i) (hw : KeepsErrorAndReserved s.sw w)
      (h0 : ZeroKeptOrCleared s rs) : Effect s i { s with regs := rs, sw := w }
  /-- A division by zero (spec/46_shift_math.md R251). -/
  | divZero {i : Instr} (x y : RegIx) (rs : Regs) (w : Byte) (hi : i = .divi x y 0 ∨ i = .modi x y 0) (hE : swE w = true)
      (h3 : swR3 w = swR3 s.sw) (h0 : ZeroKeptOrCleared s rs) :
      Effect s i { s with regs := rs, sw := w, draws := s.draws + 1 }
  /-- A shift by a register above 7 (R244). -/
  | domainFault {i : Instr} (rs : Regs) (hi : ShiftsTooFar i s) (h0 : ZeroKeptOrCleared s rs) :
      Effect s i { s with regs := rs, run := .faulted }
  /-- A gated operation in user mode (spec/60_exceptions.md R281). -/
  | refused {i : Instr} (hi : Gated i) (hk : s.kernel = false) : Effect s i { s with sw := setErr s.sw }
  /-- A stack operation that finds no slot (spec/43_stack_memory.md R151). -/
  | noSlot {i : Instr} (rs : Regs) (hi : OutOfBounds i s) (h0 : ZeroKeptOrCleared s rs) :
      Effect s i { s with regs := rs, sw := setErr s.sw }
  | halt {i : Instr} (r : RunState)
      (hi : (i = .hlt0 ∧ r = .stopped) ∨ ((i = .hlt1 ∨ i = .hlt2 ∨ i = .hlt3) ∧ r = .paused)) : Effect s i { s with run := r }
  | loopBounds (v : Byte) (rs : Regs) (h0 : ZeroKeptOrCleared s rs) :
      Effect s (.sys0 v) { s with regs := rs, loopStart := s.reg 0, loopEnd := v }
  | loopCount (v : Byte) : Effect s (.sys1 v) { s with loopCount := v }
  | controlWord (v : Byte) (hk : s.kernel = true) : Effect s (.sys2 v) { s with cw := v }
  | statusWord (v : Byte) (hk : s.kernel = true) : Effect s (.sys3 v) { s with sw := v }
  | switchPage (v : Byte) : Effect s (.sys4 v) (s.setPage v)
  | setVector (v : Byte) (rs : Regs) (hk : s.kernel = true) (h0 : ZeroKeptOrCleared s rs) :
      Effect s (.sys5 v) { s with regs := rs, vt := Memory.write s.vt (vectorIndex (s.reg 0)) v }
  | setMask (v : Byte) (hk : s.kernel = true) : Effect s (.sys6 v) { s with mask := v }
  | jump {i : Instr} (p : Word) (hi : (∃ a, i = .jmp a) ∨ ∃ c o, i = .brc c o) : Effect s i { s with pc := p }
  | call (a : BitVec 11) : Effect s (.cal a) { s.csPush s.pc with pc := s.target11 a }
  | ret : Effect s .ret0 { s.csPop with pc := s.csTop }
  | unwind : Effect s .ret1 { s.csDrain with pc := s.cs.read 0 }
  /-- INP from a bound port; from an unbound one it is a `move`. -/
  | input (x : RegIx) (p : Byte) (b : Binding) (rs : Regs) (hb : s.deviceAt p = some b) (h0 : ZeroKeptOrCleared s rs) :
      Effect s (.inp x p) { s.deviceRead b p with regs := rs }
  | output (x : RegIx) (p : Byte) (rs : Regs) (h0 : ZeroKeptOrCleared s rs) :
      Effect s (.out x p) { s.portWrite p (s.reg x) with regs := rs }
  | internal (x : RegIx) (k : BitVec 3) (rs : Regs) (hk : internalGated k = true → s.kernel = true)
      (h0 : ZeroKeptOrCleared s rs) : Effect s (.sts x k) (({ s with regs := rs } : State).setInternal k (s.reg x))
  /-- POP modes 0 and 3 of an occupied slot, whose page becomes resident. -/
  | pop {i : Instr} (x : RegIx) (f : BitVec 3) (q : Byte) (rs : Regs) (hi : i = .pop0 x f ∨ i = .pop3 x f)
      (hf : 1 + f.toNat ≤ s.vsp) (h0 : ZeroKeptOrCleared s rs) : Effect s i { s.setPage q with regs := rs, vsp := s.vsp - 1 }
  | peek (x : RegIx) (f : BitVec 3) (q : Byte) (rs : Regs) (hf : 1 + f.toNat ≤ s.vsp) (h0 : ZeroKeptOrCleared s rs) :
      Effect s (.pop1 x f) { s.setPage q with regs := rs }
  | popStatus (x : RegIx) (f : BitVec 3) (q : Byte) (hf : 1 + f.toNat ≤ s.vsp) :
      Effect s (.pop2 x f) { s.setPage q with sw := s.mem (slotAddr (s.vsp - 1 - f.toNat)), vsp := s.vsp - 1 }
  /-- The three pushing modes of PSH with room. -/
  | push {i : Instr} (x : RegIx) (f : BitVec 3) (v : Byte) (rs : Regs) (hi : i = .psh0 x f ∨ i = .psh2 x f ∨ i = .psh3 x f)
      (hf : s.vsp + f.toNat ≤ 65535) (h0 : ZeroKeptOrCleared s rs) :
      Effect s i { s.memWrite (slotAddr (s.vsp + f.toNat)) v with regs := rs, vsp := s.vsp + 1 }
  | poke (x : RegIx) (f : BitVec 3) (rs : Regs) (hf : 1 + f.toNat ≤ s.vsp) (h0 : ZeroKeptOrCleared s rs) :
      Effect s (.psh1 x f) { s.memWrite (slotAddr (s.vsp - 1 - f.toNat)) (s.reg x) with regs := rs }
  | store (x : RegIx) (o : BitVec 6) (rs : Regs) (h0 : ZeroKeptOrCleared s rs) :
      Effect s (.mst x o) { s.bankWrite (s.bankOffset o) (s.reg x) with regs := rs }

/-! ### The effect of each shared operation -/

section shared

variable {i : Instr} (s : State) (x y z : RegIx)

theorem effect_nothing (hi : LeavesFlags i) : Effect s i s := .move s.regs hi (zero_same s)

theorem effect_writeReg {t : State} (v : Byte) (hi : LeavesFlags i) (ht : t = { s with regs := t.regs })
    (h0 : ZeroKeptOrCleared s t.regs) : Effect s i (t.writeReg x v) := by
  have hw : t.writeReg x v = { s with regs := (t.writeReg x v).regs } := by
    conv_lhs => rw [writeReg_eq, ht]
    rw [writeReg_eq]
  rw [hw]
  exact .move _ hi (zero_writeReg x v h0)

theorem readReg_eq : (s.readReg x).st = { s with regs := (s.readReg x).st.regs } := by rw [readReg_st]

/-- Twice reading an operand leaves everything but the general registers. -/
theorem readReg_readReg_eq :
    ((s.readReg y).st.readReg z).st = { s with regs := ((s.readReg y).st.readReg z).st.regs } := by
  simp only [readReg_st]

theorem effect_mov0 : Effect s (.mov0 x y) (((s.readReg y).st.writeReg x (s.reg y)).writeDirect y 0) := by
  have h0 : ZeroKeptOrCleared s (((s.readReg y).st.writeReg x (s.reg y)).writeDirect y 0).regs := by
    have hr : (((s.readReg y).st.writeReg x (s.reg y)).writeDirect y 0).regs.get 0 =
        if 0 = y then 0 else ((s.readReg y).st.writeReg x (s.reg y)).reg 0 := reg_writeDirect _ y 0 0
    unfold ZeroKeptOrCleared
    rw [hr]
    split
    · exact .inr rfl
    · exact zero_writeReg x _ (zero_readReg y (zero_same s))
  have hf : ((s.readReg y).st.writeReg x (s.reg y)).writeDirect y 0 =
      { s with regs := (((s.readReg y).st.writeReg x (s.reg y)).writeDirect y 0).regs } := by
    simp only [State.writeDirect, writeReg_eq, readReg_st]
  rw [hf]
  exact .move _ trivial h0

theorem effect_aluOp (u : Byte → Byte → Byte → UnitOut) (hi : ¬ LeavesFlags i)
    (hu : ∀ a b, KeepsErrorAndReserved s.sw (u s.sw a b).sw) : Effect s i (s.aluOp x y z u) := by
  have h0 : ZeroKeptOrCleared s (s.aluOp x y z u).regs := by
    rw [aluOp_eq]
    exact zero_writeReg x _ (zero_readReg z (zero_readReg y (zero_same s)))
  rw [aluOp_frame]
  exact .compute _ _ hi (hu _ _) h0

theorem effect_immOp (u : Byte → Byte → UnitOut) (hi : ¬ LeavesFlags i)
    (hu : ∀ a, KeepsErrorAndReserved s.sw (u s.sw a).sw) : Effect s i (s.immOp x u) := by
  have h0 : ZeroKeptOrCleared s (s.immOp x u).regs := zero_writeReg x _ (zero_readReg x (zero_same s))
  rw [immOp_frame]
  exact .compute _ _ hi (hu _) h0

theorem effect_immTest (u : Byte → Byte → UnitOut) (hi : ¬ LeavesFlags i)
    (hu : ∀ a, KeepsErrorAndReserved s.sw (u s.sw a).sw) : Effect s i (s.immTest x u) := by
  have h0 : ZeroKeptOrCleared s (s.immTest x u).regs := zero_readReg x (zero_same s)
  rw [immTest_frame]
  exact .compute _ _ hi (hu _) h0

theorem effect_unaryOp (u : Byte → Byte → UnitOut) (hi : ¬ LeavesFlags i)
    (hu : ∀ a, KeepsErrorAndReserved s.sw (u s.sw a).sw) : Effect s i (s.unaryOp x y u) := by
  have h0 : ZeroKeptOrCleared s (s.unaryOp x y u).regs := zero_writeReg x _ (zero_readReg y (zero_same s))
  rw [unaryOp_frame]
  exact .compute _ _ hi (hu _) h0

theorem effect_shiftByReg (u : Byte → Byte → Nat → UnitOut)
    (hi : i = .lsl x y z ∨ i = .lsr x y z ∨ i = .rol x y z ∨ i = .asr x y z)
    (hu : ∀ a n, KeepsErrorAndReserved s.sw (u s.sw a n).sw) : Effect s i (s.shiftByReg x y z u) := by
  rcases shiftByReg_cases s x y z u with ⟨hn, h⟩ | ⟨-, h⟩
  · have h0 : ZeroKeptOrCleared s ((s.readReg y).st.readReg z).st.regs := zero_readReg z (zero_readReg y (zero_same s))
    rw [h, readReg_readReg_eq]
    exact .domainFault _ ⟨x, y, z, hi, hn⟩ h0
  · rw [h]
    refine effect_aluOp s x y z _ ?_ fun a b => hu a b.toNat
    rcases hi with rfl | rfl | rfl | rfl <;> exact id

theorem effect_divide (n : BitVec 3) (u : Byte → Byte → UnitOut) (hi : ¬ LeavesFlags i)
    (hz : n = 0 → i = .divi x y 0 ∨ i = .modi x y 0) (hu : ∀ a, KeepsErrorAndReserved s.sw (u s.sw a).sw) :
    Effect s i (if n = 0 then s.divByZero x y else s.unaryOp x y u) := by
  split
  · have h0 : ZeroKeptOrCleared s (s.divByZero x y).regs := zero_writeReg x _ (zero_readReg y (zero_same s))
    obtain ⟨hE, h3⟩ := divByZero_sw s x y
    rw [divByZero_frame]
    exact .divZero x y _ _ (hz ‹_›) hE h3 h0
  · exact effect_unaryOp s x y u hi hu

/-- A gated operation runs its body in kernel mode and is refused in user mode. -/
theorem effect_privileged (body : State → State) (hi : Gated i) (hb : s.kernel = true → Effect s i (body s)) :
    Effect s i (s.privileged body) := by
  cases hk : s.kernel with
  | false => rw [privileged_user s body hk]; exact .refused hi hk
  | true => rw [privileged_kernel s body hk]; exact hb hk

theorem internalGated_cases (k : BitVec 3) : internalGated k = true → k = 2 ∨ k = 3 ∨ k = 5 ∨ k = 6 ∨ k = 7 := by
  revert k; decide

theorem effect_sts (k : BitVec 3) : Effect s (.sts x k)
    (if internalGated k then s.privileged (fun s => s.storeInternal x k) else s.storeInternal x k) := by
  have hst : (internalGated k = true → s.kernel = true) → Effect s (.sts x k) (s.storeInternal x k) := by
    intro hk
    have h0 : ZeroKeptOrCleared s (s.readReg x).st.regs := zero_readReg x (zero_same s)
    show Effect s _ ((s.readReg x).st.setInternal k (s.reg x))
    rw [readReg_eq]
    exact .internal x k _ hk h0
  split
  · have hg := internalGated_cases k ‹_›
    exact effect_privileged s _ (.inr ⟨x, k, rfl, hg⟩) fun hk => hst fun _ => hk
  · exact hst fun h => absurd h ‹_›

theorem effect_inp (p : Byte) : Effect s (.inp x p) ((s.portRead p).st.writeReg x (s.portRead p).val) := by
  cases hb : s.deviceAt p with
  | none =>
    have hr : s.portRead p = ⟨Memory.read s.outLatch p.toNat, s⟩ := by unfold State.portRead; rw [hb]
    rw [hr]
    exact effect_writeReg s x _ trivial rfl (zero_same s)
  | some b =>
    have hr : s.portRead p = ⟨Memory.read (s.deviceRead b p).inLatch p.toNat, s.deviceRead b p⟩ := by
      unfold State.portRead; rw [hb]
    have h0 : ZeroKeptOrCleared s ((s.deviceRead b p).writeReg x (Memory.read (s.deviceRead b p).inLatch p.toNat)).regs :=
      zero_writeReg x _ (zero_same s)
    have hw (v : Byte) : (s.deviceRead b p).writeReg x v =
        { s.deviceRead b p with regs := ((s.deviceRead b p).writeReg x v).regs } := by rw [writeReg_eq]
    rw [hr, hw]
    exact .input x p b _ hb h0

/-- A push after an operand read or none (`t` is the state after it). -/
theorem effect_push {t : State} (f : BitVec 3) (v : Byte) (hi : i = .psh0 x f ∨ i = .psh2 x f ∨ i = .psh3 x f)
    (ht : t = { s with regs := t.regs }) (h0 : ZeroKeptOrCleared s t.regs) : Effect s i (t.push f v) := by
  rw [ht]
  rcases push_cases { s with regs := t.regs } f v with ⟨hf, h⟩ | ⟨hf, h⟩ <;> rw [h]
  · exact .noSlot _ (.inr ⟨x, f, hi, hf⟩) h0
  · rw [memWrite_with_regs]
    exact .push x f v _ hi hf h0

theorem effect_poke (f : BitVec 3) : Effect s (.psh1 x f) ((s.readReg x).st.poke f (s.reg x)) := by
  have h0 : ZeroKeptOrCleared s (s.readReg x).st.regs := zero_readReg x (zero_same s)
  rw [readReg_eq]
  rcases poke_cases { s with regs := (s.readReg x).st.regs } f (s.reg x) with ⟨hf, h⟩ | ⟨hf, h⟩ <;> rw [h]
  · exact .noSlot _ (.inl ⟨x, f, .inr (.inr (.inr (.inr rfl))), hf⟩) h0
  · rw [memWrite_with_regs]
    exact .poke x f _ hf h0

/-- POP and peek: `hgo` is what happens with the byte of an occupied slot. -/
theorem effect_popWith (f : BitVec 3) (drop : Nat) (use : Byte → State → State)
    (hi : i = .pop0 x f ∨ i = .pop1 x f ∨ i = .pop2 x f ∨ i = .pop3 x f)
    (hgo : 1 + f.toNat ≤ s.vsp → ∀ q,
      Effect s i (use (s.mem (slotAddr (s.vsp - 1 - f.toNat))) { s.setPage q with vsp := s.vsp - drop })) :
    Effect s i (s.popWith f drop use) := by
  rcases popWith_cases s f drop use with ⟨hf, h⟩ | ⟨hf, h⟩ <;> rw [h]
  · refine .noSlot s.regs (.inl ⟨x, f, ?_, hf⟩) (zero_same s)
    rcases hi with h | h | h | h
    · exact .inl h
    · exact .inr (.inl h)
    · exact .inr (.inr (.inl h))
    · exact .inr (.inr (.inr (.inl h)))
  · exact hgo hf _

/-- The registers after a popped byte is written normally. -/
theorem zero_popped (q : Byte) (n : Nat) (v : Byte) :
    ZeroKeptOrCleared s (({ s.setPage q with vsp := n } : State).writeReg x v).regs :=
  zero_writeReg x v (.inl (congrArg (Regs.get · 0) (setPage_regs s q)))

end shared

/-- Every instruction completes, with one of the effects above. -/
theorem exec_effect (i : Instr) (s : State) : ∃ t, exec i s = .next t ∧ Effect s i t := by
  cases i with
  | nop => exact ⟨_, rfl, effect_nothing s trivial⟩
  | hlt0 => exact ⟨_, rfl, .halt _ (.inl ⟨rfl, rfl⟩)⟩
  | hlt1 => exact ⟨_, rfl, .halt _ (.inr ⟨.inl rfl, rfl⟩)⟩
  | hlt2 => exact ⟨_, rfl, .halt _ (.inr ⟨.inr (.inl rfl), rfl⟩)⟩
  | hlt3 => exact ⟨_, rfl, .halt _ (.inr ⟨.inr (.inr rfl), rfl⟩)⟩
  | sys0 v =>
    refine ⟨{ (s.readReg 0).st with loopStart := s.reg 0, loopEnd := v }, rfl, ?_⟩
    rw [readReg_eq]
    exact .loopBounds v _ (zero_readReg 0 (zero_same s))
  | sys1 v => exact ⟨_, rfl, .loopCount v⟩
  | sys2 v => exact ⟨_, rfl, effect_privileged s _ (.inl ⟨v, .inl rfl⟩) (.controlWord v)⟩
  | sys3 v => exact ⟨_, rfl, effect_privileged s _ (.inl ⟨v, .inr (.inl rfl)⟩) (.statusWord v)⟩
  | sys4 v => exact ⟨_, rfl, .switchPage v⟩
  | sys5 v =>
    refine ⟨_, rfl, effect_privileged s _ (.inl ⟨v, .inr (.inr (.inl rfl))⟩) fun hk => ?_⟩
    show Effect s _ ((s.readReg 0).st.setVector (s.reg 0) v)
    rw [readReg_eq]
    exact .setVector v _ hk (zero_readReg 0 (zero_same s))
  | sys6 v => exact ⟨_, rfl, effect_privileged s _ (.inl ⟨v, .inr (.inr (.inr rfl))⟩) (.setMask v)⟩
  | sys7 v => exact ⟨_, rfl, effect_nothing s trivial⟩
  | ldc x c v =>
    refine ⟨_, rfl, ?_⟩
    split
    · exact .load x _ (.inr ⟨c, v, rfl⟩)
    · exact effect_nothing s trivial
  | jmp a => exact ⟨_, rfl, .jump _ (.inl ⟨a, rfl⟩)⟩
  | brc c o =>
    refine ⟨_, rfl, ?_⟩
    split
    · exact .jump _ (.inr ⟨c, o, rfl⟩)
    · exact effect_nothing s trivial
  | cal a => exact ⟨_, rfl, .call a⟩
  | ret0 => exact ⟨_, rfl, .ret⟩
  | ret1 => exact ⟨_, rfl, .unwind⟩
  | inp x p => exact ⟨_, rfl, effect_inp s x p⟩
  | out x p =>
    refine ⟨(s.readReg x).st.portWrite p (s.reg x), rfl, ?_⟩
    rw [readReg_eq]
    exact .output x p _ (zero_readReg x (zero_same s))
  | lds x k => exact ⟨_, rfl, effect_writeReg s x _ trivial rfl (zero_same s)⟩
  | sts x k => exact ⟨_, rfl, effect_sts s x k⟩
  | pop0 x f =>
    refine ⟨_, rfl, effect_popWith s x f 1 _ (.inl rfl) fun hf q => ?_⟩
    have h0 := zero_popped s x q (s.vsp - 1) (s.mem (slotAddr (s.vsp - 1 - f.toNat)))
    rw [writeReg_eq] at h0 ⊢
    exact .pop x f q _ (.inl rfl) hf h0
  | pop1 x f =>
    refine ⟨_, rfl, effect_popWith s x f 0 _ (.inr (.inl rfl)) fun hf q => ?_⟩
    have h0 := zero_popped s x q s.vsp (s.mem (slotAddr (s.vsp - 1 - f.toNat)))
    have hv : ({ s.setPage q with vsp := s.vsp - 0 } : State) = s.setPage q := by rw [setPage_frame]; rfl
    rw [hv]
    rw [writeReg_eq] at h0 ⊢
    exact .peek x f q _ hf h0
  | pop2 x f => exact ⟨_, rfl, effect_popWith s x f 1 _ (.inr (.inr (.inl rfl))) fun hf q => .popStatus x f q hf⟩
  | pop3 x f =>
    refine ⟨_, rfl, effect_popWith s x f 1 _ (.inr (.inr (.inr rfl))) fun hf q => ?_⟩
    exact .pop x f q (s.setPage q).regs (.inr rfl) hf (zero_popped s 0 q 0 0)
  | psh0 x f => exact ⟨_, rfl, effect_push s x f _ (.inl rfl) (readReg_eq s x) (zero_readReg x (zero_same s))⟩
  | psh1 x f => exact ⟨_, rfl, effect_poke s x f⟩
  | psh2 x f => exact ⟨_, rfl, effect_push s x f _ (.inr (.inl rfl)) rfl (zero_same s)⟩
  | psh3 x f => exact ⟨_, rfl, effect_push s x f _ (.inr (.inr rfl)) rfl (zero_same s)⟩
  | mld x o => exact ⟨_, rfl, effect_writeReg s x _ trivial rfl (zero_same s)⟩
  | mst x o =>
    refine ⟨(s.readReg x).st.bankWrite (s.bankOffset o) (s.reg x), rfl, ?_⟩
    rw [readReg_eq]
    exact .store x o _ (zero_readReg x (zero_same s))
  | ldi x v => exact ⟨_, rfl, .load x v (.inl ⟨v, rfl⟩)⟩
  | mov0 x y => exact ⟨_, rfl, effect_mov0 s x y⟩
  | mov1 x y => exact ⟨_, rfl, effect_writeReg s x _ trivial (readReg_eq s y) (zero_readReg y (zero_same s))⟩
  | mov2 x y => exact ⟨_, rfl, effect_nothing s trivial⟩
  | mov3 x y => exact ⟨_, rfl, effect_nothing s trivial⟩
  | adi x v => exact ⟨_, rfl, effect_immOp s x _ id fun _ => keeps_flagsOf _ _ _ _ _⟩
  | ani x v => exact ⟨_, rfl, effect_immOp s x _ id fun _ => keeps_flagsOf _ _ _ _ _⟩
  | ori x v => exact ⟨_, rfl, effect_immOp s x _ id fun _ => keeps_flagsOf _ _ _ _ _⟩
  | xri x v => exact ⟨_, rfl, effect_immOp s x _ id fun _ => keeps_flagsOf _ _ _ _ _⟩
  | cpi x v => exact ⟨_, rfl, effect_immTest s x _ id fun _ => keeps_flagsOf _ _ _ _ _⟩
  | tsi x v => exact ⟨_, rfl, effect_immTest s x _ id fun _ => keeps_flagsOf _ _ _ _ _⟩
  | add x y z => exact ⟨_, rfl, effect_aluOp s x y z _ id fun _ _ => keeps_flagsOf _ _ _ _ _⟩
  | adc x y z => exact ⟨_, rfl, effect_aluOp s x y z _ id fun _ _ => keeps_flagsOf _ _ _ _ _⟩
  | vad x y z => exact ⟨_, rfl, effect_aluOp s x y z _ id fun _ _ => keeps_flagsOf _ _ _ _ _⟩
  | vac x y z => exact ⟨_, rfl, effect_aluOp s x y z _ id fun _ _ => keeps_flagsOf _ _ _ _ _⟩
  | sub x y z => exact ⟨_, rfl, effect_aluOp s x y z _ id fun _ _ => keeps_flagsOf _ _ _ _ _⟩
  | sbb x y z => exact ⟨_, rfl, effect_aluOp s x y z _ id fun _ _ => keeps_flagsOf _ _ _ _ _⟩
  | vsb x y z => exact ⟨_, rfl, effect_aluOp s x y z _ id fun _ _ => keeps_flagsOf _ _ _ _ _⟩
  | vsc x y z => exact ⟨_, rfl, effect_aluOp s x y z _ id fun _ _ => keeps_flagsOf _ _ _ _ _⟩
  | or x y z => exact ⟨_, rfl, effect_aluOp s x y z _ id fun _ _ => keeps_flagsOf _ _ _ _ _⟩
  | and x y z => exact ⟨_, rfl, effect_aluOp s x y z _ id fun _ _ => keeps_flagsOf _ _ _ _ _⟩
  | xor x y z => exact ⟨_, rfl, effect_aluOp s x y z _ id fun _ _ => keeps_flagsOf _ _ _ _ _⟩
  | imp x y z => exact ⟨_, rfl, effect_aluOp s x y z _ id fun _ _ => keeps_flagsOf _ _ _ _ _⟩
  | nor x y z => exact ⟨_, rfl, effect_aluOp s x y z _ id fun _ _ => keeps_flagsOf _ _ _ _ _⟩
  | nand x y z => exact ⟨_, rfl, effect_aluOp s x y z _ id fun _ _ => keeps_flagsOf _ _ _ _ _⟩
  | xnor x y z => exact ⟨_, rfl, effect_aluOp s x y z _ id fun _ _ => keeps_flagsOf _ _ _ _ _⟩
  | nimp x y z => exact ⟨_, rfl, effect_aluOp s x y z _ id fun _ _ => keeps_flagsOf _ _ _ _ _⟩
  | lsl x y z => exact ⟨_, rfl, effect_shiftByReg s x y z _ (.inl rfl) fun _ _ => keeps_shiftOut _ _ _ _ _⟩
  | lsr x y z => exact ⟨_, rfl, effect_shiftByReg s x y z _ (.inr (.inl rfl)) fun _ _ => keeps_shiftOut _ _ _ _ _⟩
  | rol x y z => exact ⟨_, rfl, effect_shiftByReg s x y z _ (.inr (.inr (.inl rfl))) fun _ _ => keeps_shiftOut _ _ _ _ _⟩
  | asr x y z => exact ⟨_, rfl, effect_shiftByReg s x y z _ (.inr (.inr (.inr rfl))) fun _ _ => keeps_shiftOut _ _ _ _ _⟩
  | lsli x y n => exact ⟨_, rfl, effect_unaryOp s x y _ id fun _ => keeps_shiftOut _ _ _ _ _⟩
  | lsri x y n => exact ⟨_, rfl, effect_unaryOp s x y _ id fun _ => keeps_shiftOut _ _ _ _ _⟩
  | roli x y n => exact ⟨_, rfl, effect_unaryOp s x y _ id fun _ => keeps_shiftOut _ _ _ _ _⟩
  | asri x y n => exact ⟨_, rfl, effect_unaryOp s x y _ id fun _ => keeps_shiftOut _ _ _ _ _⟩
  | muli x y n => exact ⟨_, rfl, effect_unaryOp s x y _ id fun _ => keeps_flagsOf _ _ _ _ _⟩
  | muhi x y n => exact ⟨_, rfl, effect_unaryOp s x y _ id fun _ => keeps_flagsOf _ _ _ _ _⟩
  | divi x y n =>
    exact ⟨_, rfl, effect_divide s x y n _ id (fun h => .inl (by rw [h])) fun _ => keeps_flagsOf _ _ _ _ _⟩
  | modi x y n =>
    exact ⟨_, rfl, effect_divide s x y n _ id (fun h => .inr (by rw [h])) fun _ => keeps_flagsOf _ _ _ _ _⟩
  | sqrt x y => exact ⟨_, rfl, effect_unaryOp s x y _ id fun _ => keeps_flagsOf _ _ _ _ _⟩
  | clz x y => exact ⟨_, rfl, effect_unaryOp s x y _ id fun _ => keeps_flagsOf _ _ _ _ _⟩
  | ctz x y => exact ⟨_, rfl, effect_unaryOp s x y _ id fun _ => keeps_flagsOf _ _ _ _ _⟩
  | popc x y => exact ⟨_, rfl, effect_unaryOp s x y _ id fun _ => keeps_flagsOf _ _ _ _ _⟩

/-- A next state of `exec` is one of the effects of its instruction. -/
theorem effect_of_exec {i : Instr} {s t : State} (h : exec i s = .next t) : Effect s i t := by
  obtain ⟨u, hu, he⟩ := exec_effect i s
  rw [h] at hu
  cases hu
  exact he

/-! ## The tick (spec/70_reset_and_hazards.md R303) -/

/-- A step with a next state executes the fetched word in a running machine, or takes the inputs and nothing else. -/
theorem step_cases {s t : State} (h : step s = .next t) :
    (s.takeInputs.run = .running ∧ exec (decode s.takeInputs.fetchedWord) s.takeInputs.readyToExecute = .next t) ∨
    ((s.takeInputs.run = .paused ∨ s.takeInputs.run = .stopped) ∧ t = s.takeInputs) := by
  unfold step at h
  cases hr : s.takeInputs.run <;> rw [hr] at h
  case running => exact .inl ⟨rfl, h⟩
  case paused => cases h; exact .inr ⟨.inl rfl, rfl⟩
  case stopped => cases h; exact .inr ⟨.inr rfl, rfl⟩
  case faulted => cases h

/-! ## The machine invariant (`State.Inv`) -/

/-- The invariant looks at the memories, the stack pointer and the two page registers only. -/
theorem inv_of_sameStorage {s t : State} (hs : s.Inv)
    (h : t = { t with cs := s.cs, vsp := s.vsp, pool := s.pool, bank := s.bank, page := s.page, dirty := s.dirty,
                      ipool := s.ipool, icache := s.icache, ipage := s.ipage, outLatch := s.outLatch, inLatch := s.inLatch,
                      vt := s.vt }) : t.Inv := by
  rw [h]
  exact ⟨hs.memories, hs.vspRange, hs.bank, hs.cache⟩

/-- The invariant after an update of the bank window and the pool. -/
theorem inv_of_bankWindow {s : State} (hs : s.Inv) {pool bank : List Host.Cell} {page : Byte} {dirty : Bool}
    (hp : Memory.wf 65536 pool = true) (hb : Memory.wf 256 bank = true)
    (ha : ({ s with pool := pool, bank := bank, page := page, dirty := dirty } : State).bankAgrees) :
    ({ s with pool := pool, bank := bank, page := page, dirty := dirty } : State).Inv := by
  obtain ⟨-, -, hi, hc, hcs, ho, hn, hv⟩ := hs.memories
  exact ⟨⟨hp, hb, hi, hc, hcs, ho, hn, hv⟩, hs.vspRange, ha, hs.cache⟩

theorem inv_withVsp {s : State} (hs : s.Inv) {n : Nat} (hn : n ≤ 65536) : ({ s with vsp := n } : State).Inv :=
  ⟨hs.memories, hn, hs.bank, hs.cache⟩

theorem inv_withCallStack {s : State} (hs : s.Inv) {cs : Memory 16} (h : Memory.wf 64 cs = true) :
    ({ s with cs := cs } : State).Inv := by
  obtain ⟨hp, hb, hi, hc, -, ho, hn, hv⟩ := hs.memories
  exact ⟨⟨hp, hb, hi, hc, h, ho, hn, hv⟩, hs.vspRange, hs.bank, hs.cache⟩

theorem inv_withOutLatch {s : State} (hs : s.Inv) {m : List Host.Cell} (h : Memory.wf 256 m = true) :
    ({ s with outLatch := m } : State).Inv := by
  obtain ⟨hp, hb, hi, hc, hcs, -, hn, hv⟩ := hs.memories
  exact ⟨⟨hp, hb, hi, hc, hcs, h, hn, hv⟩, hs.vspRange, hs.bank, hs.cache⟩

theorem inv_withInLatch {s : State} (hs : s.Inv) {m : List Host.Cell} (h : Memory.wf 256 m = true) :
    ({ s with inLatch := m } : State).Inv := by
  obtain ⟨hp, hb, hi, hc, hcs, ho, -, hv⟩ := hs.memories
  exact ⟨⟨hp, hb, hi, hc, hcs, ho, h, hv⟩, hs.vspRange, hs.bank, hs.cache⟩

theorem inv_withVectors {s : State} (hs : s.Inv) {m : List Host.Cell} (h : Memory.wf nvec m = true) :
    ({ s with vt := m } : State).Inv := by
  obtain ⟨hp, hb, hi, hc, hcs, ho, hn, -⟩ := hs.memories
  exact ⟨⟨hp, hb, hi, hc, hcs, ho, hn, h⟩, hs.vspRange, hs.bank, hs.cache⟩

theorem callStack_wf {s : State} (hs : s.Inv) : Memory.wf 64 s.cs = true := by
  obtain ⟨-, -, -, -, h, -, -, -⟩ := hs.memories
  exact h

theorem outLatch_wf {s : State} (hs : s.Inv) : Memory.wf 256 s.outLatch = true := by
  obtain ⟨-, -, -, -, -, h, -, -⟩ := hs.memories
  exact h

theorem inLatch_wf {s : State} (hs : s.Inv) : Memory.wf 256 s.inLatch = true := by
  obtain ⟨-, -, -, -, -, -, h, -⟩ := hs.memories
  exact h

theorem vectors_wf {s : State} (hs : s.Inv) : Memory.wf nvec s.vt = true := by
  obtain ⟨-, -, -, -, -, -, -, h⟩ := hs.memories
  exact h

theorem writeBack_wf {s : State} (hs : s.Inv) : Memory.wf 65536 s.writeBack = true := by
  obtain ⟨hp, hb, -⟩ := hs.memories
  have := s.page.isLt
  exact wf_splice _ _ _ _ _ hp hb (by omega)

theorem inv_setPage {s : State} (hs : s.Inv) (p : Byte) : (s.setPage p).Inv := by
  have ha := setPage_bankAgrees s hs.bank p
  unfold State.setPage at ha ⊢
  split
  · exact hs
  · rw [if_neg ‹_›] at ha
    obtain ⟨hpool, -⟩ := hs.memories
    have hp : Memory.wf 65536 (if s.dirty = true then s.writeBack else s.pool) = true := by
      split
      · exact writeBack_wf hs
      · exact hpool
    exact inv_of_bankWindow hs hp (wf_window _ _ _ _ hp) ha

theorem inv_bankWrite {s : State} (hs : s.Inv) (o v : Byte) : (s.bankWrite o v).Inv := by
  obtain ⟨hp, hb, -⟩ := hs.memories
  exact inv_of_bankWindow hs hp (wf_write _ _ _ _ hb o.isLt) fun h => nomatch h

theorem inv_memWrite {s : State} (hs : s.Inv) (a : Word) (v : Byte) : (s.memWrite a v).Inv :=
  inv_bankWrite (inv_setPage hs _) _ _

theorem inv_csPush {s : State} (hs : s.Inv) (v : Word) : (s.csPush v).Inv :=
  inv_of_sameStorage (inv_withCallStack hs (wf_write _ _ _ v (callStack_wf hs) s.csp.isLt)) rfl

theorem inv_deviceRead {s : State} (hs : s.Inv) (b : Binding) (p : Byte) : (s.deviceRead b p).Inv := by
  have h : Memory.wf 256 (s.replied b p) = true := by
    rcases replied_cases s b p with h | ⟨v, h⟩ <;> rw [h]
    · exact inLatch_wf hs
    · exact wf_write _ _ _ _ (inLatch_wf hs) p.isLt
  exact inv_of_sameStorage (inv_withInLatch hs h) rfl

theorem inv_portWrite {s : State} (hs : s.Inv) (p v : Byte) : (s.portWrite p v).Inv :=
  inv_of_sameStorage (inv_withOutLatch hs (wf_write _ _ _ v (outLatch_wf hs) p.isLt)) rfl

/-- Every effect of an instruction keeps the invariant. -/
theorem inv_effect {i : Instr} {s t : State} (hs : s.Inv) (he : Effect s i t) : t.Inv := by
  cases he with
  | move | load | compute | divZero | domainFault | refused | noSlot | halt | loopBounds | loopCount | controlWord
  | statusWord | setMask | jump | ret => exact inv_of_sameStorage hs rfl
  | switchPage v => exact inv_setPage hs v
  | setVector v rs =>
    have h := wf_write _ _ (vectorIndex (s.reg 0)) v (vectors_wf hs) (Nat.mod_lt _ (by decide))
    exact inv_of_sameStorage (inv_withVectors hs h) rfl
  | call a => exact inv_of_sameStorage (inv_csPush hs s.pc) rfl
  | unwind => exact inv_of_sameStorage (inv_withCallStack hs (wf_nil 64)) rfl
  | input x p b rs => exact inv_of_sameStorage (inv_deviceRead hs b p) rfl
  | output x p rs => exact inv_of_sameStorage (inv_portWrite hs p (s.reg x)) rfl
  | internal x k rs =>
    rw [setInternal_frame]
    exact inv_of_sameStorage hs rfl
  | pop x f q rs =>
    have := hs.vspRange
    exact inv_of_sameStorage (inv_withVsp (n := s.vsp - 1) (inv_setPage hs q) (by omega)) rfl
  | peek x f q rs => exact inv_of_sameStorage (inv_setPage hs q) rfl
  | popStatus x f q =>
    have := hs.vspRange
    exact inv_of_sameStorage (inv_withVsp (n := s.vsp - 1) (inv_setPage hs q) (by omega)) rfl
  | push x f v rs _ hf =>
    exact inv_of_sameStorage (inv_withVsp (n := s.vsp + 1) (inv_memWrite hs _ v) (by omega)) rfl
  | poke x f rs => exact inv_of_sameStorage (inv_memWrite hs _ _) rfl
  | store x o rs => exact inv_of_sameStorage (inv_bankWrite hs _ _) rfl

theorem deliver_all_inLatch_wf (es : List EnvEvent) (s : State) (h : Memory.wf 256 s.inLatch = true) :
    Memory.wf 256 (es.foldl State.deliver s).inLatch = true := by
  induction es generalizing s with
  | nil => exact h
  | cons e es ih => exact ih _ (deliver_inLatch_wf s e h)

theorem takeInputs_inLatch_wf (s : State) (h : Memory.wf 256 s.inLatch = true) :
    Memory.wf 256 s.takeInputs.inLatch = true := by
  unfold State.takeInputs
  split
  · exact h
  · exact deliver_all_inLatch_wf _ _ h

theorem inv_takeInputs {s : State} (hs : s.Inv) : s.takeInputs.Inv := by
  have h := takeInputs_inLatch_wf s (inLatch_wf hs)
  rw [takeInputs_frame]
  exact inv_of_sameStorage (inv_withInLatch hs h) rfl

theorem inv_checkInterrupt {s : State} (hs : s.Inv) : s.checkInterrupt.Inv := by
  rcases checkInterrupt_cases s with ⟨q, rest, -, -, -, h⟩ | ⟨h, -⟩ <;> rw [h]
  · exact inv_of_sameStorage (inv_csPush hs s.pc) rfl
  · exact hs

theorem inv_loadInstrPage {s : State} (hs : s.Inv) (a : Word) : (s.loadInstrPage a).Inv := by
  have ha := loadInstrPage_cacheAgrees s hs.cache a
  unfold State.loadInstrPage at ha ⊢
  split
  · exact hs
  · rw [if_neg ‹_›] at ha
    obtain ⟨hp, hb, hi, -, hcs, ho, hn, hv⟩ := hs.memories
    exact ⟨⟨hp, hb, hi, wf_window _ _ _ _ hi, hcs, ho, hn, hv⟩, hs.vspRange, hs.bank, ha⟩

theorem inv_readyToExecute {s : State} (hs : s.Inv) : s.readyToExecute.Inv :=
  inv_of_sameStorage (inv_loadInstrPage (inv_checkInterrupt hs) _) rfl

/-- Settles O8: the inputs, the interrupt entry, the fetch and every effect of an instruction keep the invariant. -/
theorem stepKeepsTheMachineInvariant : Obligations.StepKeepsTheMachineInvariant := by
  intro s t hs h
  rcases step_cases h with ⟨-, he⟩ | ⟨-, rfl⟩
  · exact inv_effect (inv_readyToExecute (inv_takeInputs hs)) (effect_of_exec he)
  · exact inv_takeInputs hs

/-- Settles O9. -/
theorem resetMeetsTheMachineInvariant : Obligations.ResetMeetsTheMachineInvariant where
  memories := ⟨rfl, rfl, rfl, rfl, rfl, rfl, rfl, rfl⟩
  vspRange := Nat.zero_le _
  bank := fun _ _ => rfl
  cache := fun _ => rfl

/-- Every register of the reset state holds 0. -/
theorem reset_reg (i : RegIx) : State.reset.reg i = 0 := by
  rcases regIx_cases i with h | h | h | h | h | h | h | h <;> subst h <;> rfl

/-- Settles O10: every field's value is read off the definition of the reset state. -/
theorem resetValuesAreTheSpecs : Obligations.ResetValuesAreTheSpecs :=
  ⟨reset_reg, rfl, rfl, rfl, read_nil, rfl, rfl, rfl, rfl, rfl, rfl, rfl, fun _ => rfl, fun _ => rfl, rfl, rfl,
    read_nil, read_nil, rfl, read_nil, read_nil, read_nil, rfl, rfl, rfl, rfl⟩

/-! ## Who writes the control registers -/

/-- What a store to an internal register can change: the register of its index (spec/42_port_internal.md R143). -/
theorem setInternal_cases (s : State) (k : BitVec 3) (v : Byte) :
    (k = 0 ∧ s.setInternal k v = { s with ap := v }) ∨
    (k = 1 ∧ s.setInternal k v = { s with csp := v.setWidth 6 }) ∨
    (k = 2 ∧ s.setInternal k v = { s with sw := v }) ∨
    (k = 3 ∧ s.setInternal k v = { s with cw := v }) ∨
    (k = 4 ∧ s.setInternal k v = { s with loopPtr := v }) ∨
    ((k = 5 ∨ k = 6 ∨ k = 7) ∧ ∃ p, s.setInternal k v = { s with pc := p }) := by
  rcases regIx_cases k with h | h | h | h | h | h | h | h <;> subst h
  · exact .inl ⟨rfl, rfl⟩
  · exact .inr (.inl ⟨rfl, rfl⟩)
  · exact .inr (.inr (.inl ⟨rfl, rfl⟩))
  · exact .inr (.inr (.inr (.inl ⟨rfl, rfl⟩)))
  · exact .inr (.inr (.inr (.inr (.inl ⟨rfl, rfl⟩))))
  · exact .inr (.inr (.inr (.inr (.inr ⟨.inl rfl, _, rfl⟩))))
  · exact .inr (.inr (.inr (.inr (.inr ⟨.inr (.inl rfl), _, rfl⟩))))
  · exact .inr (.inr (.inr (.inr (.inr ⟨.inr (.inr rfl), _, rfl⟩))))

/-- Settles O14: effect by effect, the control registers it leaves alone and, for those it writes, the instruction and the mode. -/
theorem controlRegistersHaveTheseWritersOnly : Obligations.ControlRegistersHaveTheseWritersOnly := by
  intro i s t h
  cases effect_of_exec h with
  | move | load | compute | divZero | refused | noSlot => simp
  | switchPage | output | peek | poke | store => simp
  | input => simp [State.deviceRead]
  | domainFault rs hi => simp [hi]
  | halt r hi => rcases hi with ⟨rfl, -⟩ | ⟨rfl | rfl | rfl, -⟩ <;> simp
  | loopBounds | loopCount | statusWord | call | ret | unwind => simp
  | controlWord v hk => simp [hk]
  | setVector v rs hk => simp [hk]
  | setMask v hk => simp [hk]
  | jump p hi => rcases hi with ⟨a, rfl⟩ | ⟨c, o, rfl⟩ <;> simp
  | pop x f q rs hi => rcases hi with rfl | rfl <;> simp [MovesStack]
  | popStatus => simp [MovesStack]
  | push x f v rs hi => rcases hi with rfl | rfl | rfl <;> simp [MovesStack]
  | internal x k rs hk =>
    rcases setInternal_cases { s with regs := rs } k (s.reg x) with
      ⟨rfl, h⟩ | ⟨rfl, h⟩ | ⟨rfl, h⟩ | ⟨rfl, h⟩ | ⟨rfl, h⟩ | ⟨hk', p, h⟩ <;> rw [h]
    · simp
    · simp
    · simp
    · simp [hk rfl]
    · simp
    · have hg : internalGated k = true := by rcases hk' with rfl | rfl | rfl <;> rfl
      simpa [hk hg] using fun _ => hk'

/-! ## Register 0 and the direct writes (spec/10_state.md R13, R14) -/

theorem onlyRegisters_writeReg (s : State) (x : RegIx) (v : Byte) : OnlyRegisters s (s.writeReg x v) where
  rest := by rw [writeReg_eq]
  memory := mem_congr s _ (writeReg_pool s x v) (writeReg_bank s x v) (writeReg_page s x v)

theorem registersAre_writeReg (s : State) (x : RegIx) (v : Byte) : RegistersAre s (s.writeReg x v) False x v where
  written h := by rw [reg_writeReg, if_pos ⟨rfl, h⟩]
  zeroRead h := h.elim
  zeroKept _ := writeReg_reg_zero s x v
  others j _ hx := by rw [reg_writeReg, if_neg fun h => hx h.1]

/-- Register 0 is kept or cleared by every effect but a direct write to it. -/
theorem effect_reg_zero {i : Instr} {s t : State} (he : Effect s i t) :
    t.reg 0 = s.reg 0 ∨ t.reg 0 = 0 ∨ (∃ v, i = .ldi 0 v) ∨ ∃ c v, i = .ldc 0 c v := by
  cases he with
  | move _ _ h0 | compute _ _ _ _ h0 | divZero _ _ _ _ _ _ _ h0 | domainFault _ _ h0 | noSlot _ _ h0
  | loopBounds _ _ h0 | setVector _ _ _ h0 | input _ _ _ _ _ h0 | output _ _ _ h0 | pop _ _ _ _ _ _ h0
  | peek _ _ _ _ _ h0 | push _ _ _ _ _ _ h0 | poke _ _ _ _ h0 | store _ _ _ h0 => exact h0.imp_right .inl
  | refused | halt | loopCount | controlWord | statusWord | setMask | jump | call | ret | unwind => exact .inl rfl
  | switchPage v => exact .inl (congrArg (Regs.get · 0) (setPage_regs s v))
  | popStatus _ _ q => exact .inl (congrArg (Regs.get · 0) (setPage_regs s q))
  | internal x k rs _ h0 =>
    rw [setInternal_frame]
    exact h0.imp_right .inl
  | load x v hi =>
    by_cases hx : x = 0
    · subst hx
      have hd : (∃ w, i = .ldi 0 w) ∨ ∃ c w, i = .ldc 0 c w := hi
      exact .inr (.inr hd)
    · refine .inl ?_
      have hr : (s.writeDirect x v).reg 0 = s.reg 0 := by rw [reg_writeDirect, if_neg (Ne.symm hx)]
      exact hr

/-- Settles O17. -/
theorem registerZeroIsLoadedByLdiAndLdcOnly : Obligations.RegisterZeroIsLoadedByLdiAndLdcOnly := by
  refine ⟨fun s x v => ⟨registersAre_writeReg s x v, onlyRegisters_writeReg s x v, rfl⟩, ?_, ?_, ?_⟩
  · intro s t x v h
    cases h
    rw [reg_writeDirect, if_pos rfl]
  · intro s t x c v hc h
    have ht : exec (.ldc x c v) s = .next (s.writeDirect x (v.setWidth 8)) := congrArg _ (if_pos hc)
    rw [ht] at h
    cases h
    rw [reg_writeDirect, if_pos rfl]
  · intro i s t h hne
    exact (effect_reg_zero (effect_of_exec h)).resolve_left hne

/-! ## The error flag is sticky (spec/10_state.md R17) -/

theorem setErr_E (sw : Byte) : swE (setErr sw) = true := by
  obtain ⟨h, -⟩ := setErr_bits sw
  exact h

/-- Every effect keeps the error flag, sets it, or writes the whole status word. -/
theorem effect_error {i : Instr} {s t : State} (he : Effect s i t) :
    swE t.sw = swE s.sw ∨ swE t.sw = true ∨ WritesStatusWord i s := by
  cases he with
  | move | load | domainFault | halt | loopBounds | loopCount | controlWord | setVector | setMask | jump | call | ret
  | unwind | input | output | store => exact .inl rfl
  | compute _ _ _ hw =>
    obtain ⟨hE, -⟩ := hw
    exact .inl hE
  | divZero _ _ _ _ _ hE => exact .inr (.inl hE)
  | refused | noSlot => exact .inr (.inl (setErr_E s.sw))
  | statusWord v hk => exact .inr (.inr (.inl ⟨hk, .inl ⟨v, rfl⟩⟩))
  | switchPage v => exact .inl (congrArg swE (setPage_sw s v))
  | pop _ _ q | peek _ _ q => exact .inl (congrArg swE (setPage_sw s q))
  | popStatus x f _ hf => exact .inr (.inr (.inr ⟨x, f, rfl, hf⟩))
  | push _ _ v => exact .inl (congrArg swE (memWrite_sw s _ v))
  | poke x => exact .inl (congrArg swE (memWrite_sw s _ (s.reg x)))
  | internal x k rs hk =>
    rcases setInternal_cases { s with regs := rs } k (s.reg x) with
      ⟨-, h⟩ | ⟨-, h⟩ | ⟨rfl, -⟩ | ⟨-, h⟩ | ⟨-, h⟩ | ⟨-, p, h⟩
    case inr.inr.inl => exact .inr (.inr (.inl ⟨hk rfl, .inr ⟨x, rfl⟩⟩))
    all_goals
      rw [h]
      exact .inl rfl

/-- Inputs, interrupt check and fetch leave the status word alone. -/
theorem readyToExecute_sw (s : State) : s.readyToExecute.sw = s.sw := by
  unfold State.readyToExecute
  rw [advance_sw, loadInstrPage_sw, checkInterrupt_sw]

/-- Settles O20: nothing before the execution touches the status word, and no effect clears the flag otherwise. -/
theorem errorFlagIsSticky : Obligations.ErrorFlagIsSticky := by
  intro s t h hset hclear
  rcases step_cases h with ⟨hrun, he⟩ | ⟨-, rfl⟩
  · refine ⟨hrun, ?_⟩
    rcases effect_error (effect_of_exec he) with hkeep | hE | hw
    · rw [readyToExecute_sw, takeInputs_sw, hset, hclear] at hkeep
      cases hkeep
    · rw [hclear] at hE
      cases hE
    · exact hw
  · rw [takeInputs_sw, hset] at hclear
    cases hclear

/-! ## The call stack (spec/10_state.md R25 to R28) -/

/-- The pointer a pop leaves, one below modulo 64 (R27). -/
theorem csPop_csp_toNat (s : State) : s.csPop.csp.toNat = (s.csp.toNat + 63) % 64 := by
  rw [csPop_csp, BitVec.toNat_sub, Nat.add_comm]
  rfl

theorem csPush_csp_toNat (s : State) (v : Word) : (s.csPush v).csp.toNat = (s.csp.toNat + 1) % 64 := by
  rw [csPush_csp, BitVec.toNat_add]
  rfl

theorem csTop_eq (s : State) : s.csTop = s.cs.read ((s.csp.toNat + 63) % 64) := by
  rw [← csPop_csp_toNat]
  rfl

/-- Settles O33. -/
theorem returnsPopOrDrainTheCallStack : Obligations.ReturnsPopOrDrainTheCallStack := by
  intro s
  refine ⟨⟨_, rfl, ?_, csPop_csp_toNat s, fun _ => rfl⟩, ⟨_, rfl, rfl, read_nil, fun _ => rfl⟩, fun a => ⟨_, _, rfl, rfl, ?_⟩⟩
  · rw [csTop_eq]
    rfl
  · have hpc : ({ s.csPush s.pc with pc := s.target11 a } : State).csTop = s.pc := csTop_csPush s s.pc
    have hcsp : s.csp + 1 - 1 = s.csp := BitVec.add_sub_cancel ..
    rw [hpc]
    simp only [State.csPop, State.csPush, hcsp]

/-- Pushes of at most 64 words from pointer 0: the pointer counts them modulo 64 and they lie from entry 0 upward. -/
theorem csPush_all (s : State) (h0 : s.csp = 0) (vs : List Word) (hl : vs.length ≤ 64) :
    (vs.foldl State.csPush s).csp.toNat = vs.length % 64 ∧
    ∀ k, (vs.foldl State.csPush s).cs.read k = if k < vs.length then vs.getD k 0 else s.cs.read k := by
  induction vs using List.reverseRecOn with
  | nil => exact ⟨congrArg BitVec.toNat h0, fun k => rfl⟩
  | append_singleton vs v ih =>
    rw [List.length_append, List.length_singleton] at hl ⊢
    obtain ⟨hcsp, hread⟩ := ih (by omega)
    have hptr : (vs.foldl State.csPush s).csp.toNat = vs.length := by omega
    rw [List.foldl_append, List.foldl_cons, List.foldl_nil]
    refine ⟨by rw [csPush_csp_toNat, hptr], fun k => ?_⟩
    rw [csPush_cs, read_write, hptr, hread]
    rcases Nat.lt_trichotomy k vs.length with h | rfl | h
    · rw [if_neg (by omega), if_pos h, if_pos (by omega), List.getD_append _ _ _ _ h]
    · rw [if_pos rfl, if_pos (by omega), List.getD_append_right _ _ _ _ le_rfl, Nat.sub_self]
      rfl
    · rw [if_neg (by omega), if_neg (by omega), if_neg (by omega)]

/-- Settles O34, the ring of 64 by `csPush_all`. -/
theorem callStackIsARingThatWrapsSilently : Obligations.CallStackIsARingThatWrapsSilently := by
  refine ⟨fun s v => ⟨rfl, csPush_csp_toNat s v, fun k => read_write ..⟩, fun s => ⟨rfl, csPop_csp_toNat s, rfl⟩, ?_⟩
  intro s vs hl h0 v
  obtain ⟨hcsp, hread⟩ := csPush_all s h0 vs hl.le
  have hzero : (vs.foldl State.csPush s).csp = 0 := BitVec.eq_of_toNat_eq (by rw [hcsp, hl]; rfl)
  refine ⟨hzero, fun k hk => by rw [hread, if_pos (hl ▸ hk)], ?_⟩
  rw [csPush_cs, hzero]
  exact read_write_same ..

/-! ## The whole status word (spec/10_state.md R18) -/

/-- Setting the error flag changes bit 1 alone. -/
theorem errorSet_setErr (sw : Byte) : ErrorSet sw (setErr sw) := by
  refine ⟨setErr_E sw, fun n hn => ?_⟩
  have hbit : (0x02 : Byte).getLsbD n = false := by
    by_cases h : n < 8
    · interval_cases n <;> simp at hn ⊢
    · exact BitVec.getLsbD_of_ge _ _ (by omega)
  rw [setErr, BitVec.getLsbD_or, hbit, Bool.or_false]

/-- LDS 2 delivers the status word. -/
theorem lds_status (t : State) {z : RegIx} (hz : z ≠ 0) : ∃ u, exec (.lds z 2) t = .next u ∧ u.reg z = t.sw :=
  ⟨_, rfl, by rw [reg_writeReg, if_pos ⟨rfl, hz⟩]; rfl⟩

/-- A push with offset 0 onto a stack with room (spec/43_stack_memory.md R157). -/
theorem push_zero (s : State) (v : Byte) (h : s.vsp ≤ 65535) :
    s.push 0 v = { s.memWrite (slotAddr s.vsp) v with vsp := s.vsp + 1 } := by
  rcases push_cases s 0 v with ⟨hf, -⟩ | ⟨-, h⟩
  · have : s.vsp + 0 > 65535 := hf
    omega
  · exact h

/-- A pop with offset 0 from a stack that is not empty (R152). -/
theorem popWith_zero (s : State) (drop : Nat) (use : Byte → State → State) (h : 1 ≤ s.vsp) :
    s.popWith 0 drop use = use (s.mem (slotAddr (s.vsp - 1)))
      { s.setPage (dataPage (slotAddr (s.vsp - 1))) with vsp := s.vsp - drop } := by
  rcases popWith_cases s 0 drop use with ⟨hf, -⟩ | ⟨-, h⟩
  · have : s.vsp < 1 + 0 := hf
    omega
  · exact h

/-- The byte on top after a push is the one pushed. -/
theorem push_zero_top (s : State) (v : Byte) (hb : s.bankAgrees) (h : s.vsp ≤ 65535) :
    (s.push 0 v).vsp = s.vsp + 1 ∧ (s.push 0 v).mem (slotAddr ((s.push 0 v).vsp - 1)) = v := by
  rw [push_zero s v h]
  refine ⟨rfl, ?_⟩
  have hm : (s.memWrite (slotAddr s.vsp) v).mem (slotAddr s.vsp) = v := by rw [memWrite_mem s hb, if_pos rfl]
  exact hm

/-! The gated operations of R18 in either mode, and the pops with offset 0, as equations of `exec`. -/

theorem exec_sys3_kernel (s : State) (v : Byte) (hk : s.kernel = true) : exec (.sys3 v) s = .next { s with sw := v } :=
  congrArg Host.Outcome.next (privileged_kernel s (fun s => { s with sw := v }) hk)

theorem exec_sys3_user (s : State) (v : Byte) (hk : s.kernel = false) : exec (.sys3 v) s = .next s.seterr :=
  congrArg Host.Outcome.next (privileged_user s (fun s => { s with sw := v }) hk)

theorem exec_sts_gated (s : State) (x : RegIx) (k : BitVec 3) (hg : internalGated k = true) :
    exec (.sts x k) s = .next (s.privileged fun s => s.storeInternal x k) :=
  congrArg Host.Outcome.next (if_pos hg)

theorem exec_sts_kernel (s : State) (x : RegIx) (k : BitVec 3) (hg : internalGated k = true) (hk : s.kernel = true) :
    exec (.sts x k) s = .next (s.storeInternal x k) := by
  rw [exec_sts_gated s x k hg, privileged_kernel s _ hk]

theorem exec_sts_user (s : State) (x : RegIx) (k : BitVec 3) (hg : internalGated k = true) (hk : s.kernel = false) :
    exec (.sts x k) s = .next s.seterr := by
  rw [exec_sts_gated s x k hg, privileged_user s _ hk]

theorem exec_pop0_zero (s : State) (z : RegIx) (h : 1 ≤ s.vsp) : ∃ t, exec (.pop0 z 0) s = .next t ∧
    (z ≠ 0 → t.reg z = s.mem (slotAddr (s.vsp - 1))) := by
  refine ⟨_, congrArg Host.Outcome.next (popWith_zero s 1 (fun v s => s.writeReg z v) h), fun hz => ?_⟩
  rw [reg_writeReg, if_pos ⟨rfl, hz⟩]

theorem exec_pop2_zero (s : State) (x : RegIx) (h : 1 ≤ s.vsp) : ∃ t, exec (.pop2 x 0) s = .next t ∧
    t.sw = s.mem (slotAddr (s.vsp - 1)) ∧ t.vsp = s.vsp - 1 :=
  ⟨_, congrArg Host.Outcome.next (popWith_zero s 1 (fun v s => { s with sw := v }) h), rfl, rfl⟩

/-- Settles O60: what SYS 3, STS 2 and POP 2 put in the status word is what LDS 2 and PSH 2 take from it. -/
theorem wholeStatusWordIsReadBackAsWritten : Obligations.WholeStatusWordIsReadBackAsWritten := by
  intro s x z v hz
  refine ⟨fun hk => ?_, fun hk => ?_, fun hk i hi => ?_, fun h1 => ?_, fun hb hv => ?_, fun c => rfl⟩
  · obtain ⟨u, hu, hr⟩ := lds_status { s with sw := v } hz
    exact ⟨_, u, exec_sys3_kernel s v hk, rfl, hu, hr⟩
  · obtain ⟨u, hu, hr⟩ := lds_status (s.storeInternal x 2) hz
    exact ⟨_, u, exec_sts_kernel s x 2 rfl hk, rfl, hu, hr⟩
  · refine ⟨s.seterr, ?_, errorSet_setErr s.sw⟩
    rcases hi with rfl | rfl
    · exact exec_sys3_user s v hk
    · exact exec_sts_user s x 2 rfl hk
  · obtain ⟨t, ht, hsw, -⟩ := exec_pop2_zero s x h1
    exact ⟨t, ht, hsw⟩
  · obtain ⟨hvsp, htop⟩ := push_zero_top s s.sw hb hv
    obtain ⟨u, hu, hreg⟩ := exec_pop0_zero (s.push 0 s.sw) z (by omega)
    obtain ⟨w, hw, hsw, hpop⟩ := exec_pop2_zero (s.push 0 s.sw) x (by omega)
    refine ⟨s.push 0 s.sw, u, w, rfl, hu, (hreg hz).trans htop, hw, hsw.trans htop, ?_⟩
    rw [hpop, hvsp, Nat.add_sub_cancel]

end Sys2Proof.Proofs

/-! PROOFS. The memories, the ports and the environment (spec/20_memory.md, spec/42_port_internal.md, spec/70_reset_and_hazards.md
R303, R304), and that the instruction cache cannot be seen (R55): every operation but the fetch is blind to it (`CacheBlind`). -/

namespace Sys2Proof.Proofs

open Sys2Proof.Machine Sys2Proof.Laws Sys2Proof.Spec

/-! ## The ports (spec/20_memory.md R60, R61) -/

/-- A memory addressed by bytes after a write: two bytes are equal exactly if the addresses are. -/
theorem read_write_byte (m : List Host.Cell) (p v r : Byte) :
    Memory.read (Memory.write m p.toNat v) r.toNat = if r = p then v else Memory.read m r.toNat := by
  rw [read_write]
  exact if_congr BitVec.toNat_inj rfl rfl

/-- Every input latch after the read handler's reply: the reply, if there is one, is in the latch of the port read (R60). -/
theorem replied_read (s : State) (b : Binding) (p r : Byte) : Memory.read (s.replied b p) r.toNat =
    if r = p then (Config.deviceReply s.draws s.deviceCalls b.device (b.offset p)).getD (Memory.read s.inLatch p.toNat)
    else Memory.read s.inLatch r.toNat := by
  unfold State.replied
  cases Config.deviceReply s.draws s.deviceCalls b.device (b.offset p) with
  | none => exact (ite_eq_right_iff.2 fun h => by rw [h]; rfl).symm
  | some v => exact read_write_byte s.inLatch p v r

/-- `RegistersAre` looks at the general registers alone. -/
theorem registersAre_congr {s s' t t' : State} {clears : Prop} {x : RegIx} {v : Byte} (h : RegistersAre s t clears x v)
    (hs : s'.regs = s.regs) (ht : t'.regs = t.regs) : RegistersAre s' t' clears x v := by
  have hsr (j : RegIx) : s'.reg j = s.reg j := congrArg (Regs.get · j) hs
  have htr (j : RegIx) : t'.reg j = t.reg j := congrArg (Regs.get · j) ht
  obtain ⟨hw, hz, hk, ho⟩ := h
  constructor <;> simpa only [hsr, htr]

theorem registersAre_readReg (s : State) (x : RegIx) : RegistersAre s (s.readReg x).st (x = 0) 0 0 where
  written h := absurd rfl h
  zeroRead h := by rw [reg_readReg, if_pos ⟨h, rfl⟩]
  zeroKept h := by rw [reg_readReg, if_neg fun g => h g.1]
  others j h0 _ := by rw [reg_readReg, if_neg fun g => h0 g.2]

theorem exec_out (s : State) (x : RegIx) (p : Byte) : exec (.out x p) s = .next
    { s with regs := (s.readReg x).st.regs, outLatch := Memory.write s.outLatch p.toNat (s.reg x),
             deviceCalls := s.deviceWrite p (s.reg x) } := by
  show Host.Outcome.next ((s.readReg x).st.portWrite p (s.reg x)) = _
  rw [readReg_eq]
  rfl

theorem exec_inp_unbound (s : State) (x : RegIx) {p : Byte} (hp : s.deviceAt p = none) :
    exec (.inp x p) s = .next (s.writeReg x (Memory.read s.outLatch p.toNat)) := by
  show Host.Outcome.next ((s.portRead p).st.writeReg x (s.portRead p).val) = _
  unfold State.portRead
  rw [hp]

theorem exec_inp_bound (s : State) (x : RegIx) {p : Byte} {b : Binding} (hp : s.deviceAt p = some b) :
    exec (.inp x p) s = .next ((s.deviceRead b p).writeReg x (Memory.read (s.replied b p) p.toNat)) := by
  show Host.Outcome.next ((s.portRead p).st.writeReg x (s.portRead p).val) = _
  unfold State.portRead
  rw [hp]
  rfl

theorem deviceWrite_unbound (s : State) {p : Byte} (hp : s.deviceAt p = none) (v : Byte) :
    s.deviceWrite p v = s.deviceCalls := by
  unfold State.deviceWrite
  rw [hp]

theorem deviceWrite_bound (s : State) {p : Byte} {b : Binding} (hp : s.deviceAt p = some b) (v : Byte) :
    s.deviceWrite p v = .write b.device (b.offset p) v :: s.deviceCalls := by
  unfold State.deviceWrite
  rw [hp]

/-- Settles O35: `exec_out` says what OUT leaves in the latch, `exec_inp_unbound` that INP takes it from there. -/
theorem unboundPortEchoesItsOutputLatch : Obligations.UnboundPortEchoesItsOutputLatch := by
  intro s x p
  refine ⟨⟨_, exec_out s x p, rfl, fun hp => deviceWrite_unbound s hp _, registersAre_congr (registersAre_readReg s x) rfl rfl,
    fun r => read_write_byte .., fun _ => rfl⟩, fun hp => ?_, fun z hz hp => ?_⟩
  · exact ⟨_, exec_inp_unbound s x hp, registersAre_writeReg s x _, onlyRegisters_writeReg s x _⟩
  · refine ⟨_, _, exec_out s x p, exec_inp_unbound _ z hp, ?_⟩
    rw [reg_writeReg, if_pos ⟨rfl, hz⟩]
    exact read_write_same ..

/-- Settles O36: the latch delivered is the one `replied_read` describes. -/
theorem boundPortDeliversItsInputLatch : Obligations.BoundPortDeliversItsInputLatch := by
  intro s x p b hp
  have hlatch := replied_read s b p
  have hin : ((s.deviceRead b p).writeReg x (Memory.read (s.replied b p) p.toNat)).inLatch = s.replied b p := writeReg_inLatch ..
  refine ⟨_, exec_inp_bound s x hp, ?_, ?_, fun a => ?_, fun r hr => ?_, fun hnone => ?_, fun v hsome => ?_⟩
  · rw [writeReg_eq]
    rfl
  · rw [hin]
    exact registersAre_congr (registersAre_writeReg (s.deviceRead b p) x _) rfl rfl
  · rw [writeReg_eq]
    rfl
  · rw [hin, hlatch, if_neg hr]
  · rw [hin, hlatch, if_pos rfl, Binding.offset, hnone, Option.getD_none]
  · rw [hin, hlatch, if_pos rfl, Binding.offset, hsome, Option.getD_some]

/-- Settles O37: the reply to the following INP is that to the list of calls with the write in front. -/
theorem boundPortHandsTheWriteToItsDevice : Obligations.BoundPortHandsTheWriteToItsDevice := by
  intro s x p b hp
  have hcall := deviceWrite_bound s hp (s.reg x)
  refine ⟨_, exec_out s x p, ?_, registersAre_congr (registersAre_readReg s x) rfl rfl, fun _ => rfl,
    fun r => read_write_byte .., fun z hz => ⟨_, exec_inp_bound _ z hp, ?_⟩⟩
  · rw [hcall]
    rfl
  · rw [reg_writeReg, if_pos ⟨rfl, hz⟩, replied_read, if_pos rfl, hcall]
    rfl

/-! ## The bank window (spec/20_memory.md R43 to R47) -/

theorem dataPage_eq_iff (a : Word) (p : Byte) : dataPage a = p ↔ a.toNat / 256 = p.toNat := by
  have := addr_split a
  have := pageOffset_lt a
  rw [← BitVec.toNat_inj]
  omega

theorem pageOffset_eq (a : Word) : pageOffset a = BitVec.ofNat 8 (a.toNat % 256) := by
  have := addr_split a
  have := pageOffset_lt a
  apply BitVec.eq_of_toNat_eq
  rw [BitVec.toNat_ofNat]
  omega

/-- The pool after a real page switch, read directly (R44, R48). -/
theorem setPage_poolRead (s : State) {p : Byte} (hp : p ≠ s.page) (a : Word) : (s.setPage p).poolRead a =
    if s.dirty = true ∧ a.toNat / 256 = s.page.toNat then s.bankRead (BitVec.ofNat 8 (a.toNat % 256)) else s.poolRead a := by
  rw [← pageOffset_eq]
  refine (setPage_pool_read s p a).trans (if_congr ?_ rfl rfl)
  rw [dataPage_eq_iff, and_iff_right hp]

/-- The bank after a real page switch is the new page of the pool before it, which the write-back leaves alone (R44). -/
theorem setPage_bankRead_new (s : State) {p : Byte} (hp : p ≠ s.page) (o : Byte) :
    (s.setPage p).bankRead o = s.poolRead (addrOf p o) := by
  rw [setPage_bankRead, if_neg hp, ← addrOf_toNat, setPage_pool_read, dataPage_addrOf, if_neg fun h => hp h.2.2]
  rfl

/-- Settles O30: the pool and the bank after the switch are `setPage_poolRead` and `setPage_bankRead_new`. -/
theorem setPageWritesBackADirtyBank : Obligations.SetPageWritesBackADirtyBank := by
  intro s p
  refine ⟨rfl, fun hp => hp ▸ setPage_resident s, fun hp => ⟨?_, setPage_poolRead s hp, setPage_bankRead_new s hp⟩,
    fun hb => ⟨setPage_mem s hb p, setPage_bankAgrees s hb p⟩⟩
  have hframe := setPage_frame s p
  rwa [setPage_page, setPage_dirty, if_neg hp] at hframe

/-- A byte of the resident page is the bank's. -/
theorem mem_addrOf_page (s : State) (o : Byte) : s.mem (addrOf s.page o) = s.bankRead o := by
  unfold State.mem
  rw [dataPage_addrOf, pageOffset_addrOf, if_pos rfl]

theorem exec_mst (s : State) (x : RegIx) (o : BitVec 6) : exec (.mst x o) s = .next
    { s with regs := (s.readReg x).st.regs, bank := Memory.write s.bank (s.bankOffset o).toNat (s.reg x), dirty := true } := by
  show Host.Outcome.next ((s.readReg x).st.bankWrite (s.bankOffset o) (s.reg x)) = _
  rw [readReg_eq]
  rfl

/-- Settles O47: the store leaves the bank dirty, so neither switch changes a byte of memory (`setPage_mem`). -/
theorem storeSurvivesAPageRoundTrip : Obligations.StoreSurvivesAPageRoundTrip := by
  intro s x z o p hz
  obtain ⟨t, ht, htp, hdirty, htap, htr⟩ : ∃ t, exec (.mst x o) s = .next t ∧ t.page = s.page ∧ t.dirty = true ∧
      t.ap = s.ap ∧ t.bankRead (s.bankOffset o) = s.reg x := ⟨_, exec_mst s x o, rfl, rfl, rfl, read_write_same ..⟩
  refine ⟨t, _, _, _, ht, rfl, rfl, rfl, ?_⟩
  have hb : t.bankAgrees := fun hclean => nomatch hdirty.symm.trans hclean
  have hoff : ((t.setPage p).setPage s.page).bankOffset o = s.bankOffset o := by
    simp only [State.bankOffset, setPage_ap, htap]
  rw [reg_writeReg, if_pos ⟨rfl, hz⟩, hoff]
  calc ((t.setPage p).setPage s.page).bankRead (s.bankOffset o)
      = ((t.setPage p).setPage s.page).mem (addrOf s.page (s.bankOffset o)) := by
        rw [← mem_addrOf_page, setPage_page]
    _ = t.mem (addrOf s.page (s.bankOffset o)) := by
        rw [setPage_mem _ (setPage_bankAgrees t hb p), setPage_mem t hb]
    _ = s.reg x := by rw [← htp, mem_addrOf_page, htr]

/-! ## What the environment delivers (spec/70_reset_and_hazards.md R303, R304) -/

theorem takeInputs_cons {s : State} {batch : List EnvEvent} {rest : List (List EnvEvent)} (h : s.inputs = batch :: rest) :
    s.takeInputs = batch.foldl State.deliver { s with inputs := rest } := by
  unfold State.takeInputs
  rw [h]

theorem step_of_paused {s : State} (h : s.takeInputs.run = .paused) : step s = .next s.takeInputs := by
  unfold step
  rw [h]

/-- Requests are stacked in the order they come, the last on top (spec/60_exceptions.md R274). -/
theorem deliver_requests (qs : List Irq) (s : State) :
    (qs.map EnvEvent.irqRequest).foldl State.deliver s = { s with pend := qs.reverse ++ s.pend } := by
  induction qs generalizing s with
  | nil => rfl
  | cons q qs ih =>
    have hq : s.deliver (.irqRequest q) = { s with pend := q :: s.pend } := rfl
    rw [List.map_cons, List.foldl_cons, hq, ih, List.reverse_cons, List.append_assoc]
    rfl

/-- Settles O24: a paused step is what its batch delivers (`takeInputs_cons`); run control is the two cases of each event. -/
theorem environmentEventsDoWhatTheRulesSay : Obligations.EnvironmentEventsDoWhatTheRulesSay := by
  intro s
  refine ⟨fun qs rest hrun hin => ?_, fun rest hrun hin => ?_, fun h => if_pos h, fun h => if_neg h, fun h => if_pos h,
    fun h => if_neg h, fun h => if_neg h, fun h => if_pos h, fun p v => ⟨rfl, fun r => read_write_byte ..⟩⟩
  · have ht := (takeInputs_cons hin).trans (deliver_requests qs _)
    rw [step_of_paused (ht ▸ hrun), ht]
  · have ht : s.takeInputs = { s with act := s.act.drop 1, inputs := rest } := by
      rw [takeInputs_cons hin, List.drop_one]
      rfl
    rw [step_of_paused (ht ▸ hrun), ht]

/-! ## Who writes the memories, the ports and the interrupt stacks -/

/-- Settles O15: effect by effect, the memories, latches and stacks it leaves alone and, for those it writes, the instruction. -/
theorem memoriesAndPortsHaveTheseWritersOnly : Obligations.MemoriesAndPortsHaveTheseWritersOnly := by
  intro i s t h
  cases effect_of_exec h with
  | move | load | compute | domainFault | refused | noSlot | halt | loopBounds | loopCount | controlWord | statusWord
  | setVector | setMask | jump | call | ret | unwind => simp
  | divZero x y rs w hi => rcases hi with rfl | rfl <;> simp
  | switchPage v => simp [SwitchesPage]
  | input x p b rs hb => simp [State.deviceRead, hb]
  | output x p rs =>
    rcases deviceWrite_cases s p (s.reg x) with ⟨b, hb, -⟩ | ⟨-, hcalls⟩
    · simp [hb]
    · simp [hcalls]
  | internal x k rs =>
    rw [setInternal_frame]
    simp
  | pop x f q rs hi => rcases hi with rfl | rfl <;> simp [SwitchesPage]
  | peek | popStatus | poke => simp [SwitchesPage]
  | push x f v rs hi => rcases hi with rfl | rfl | rfl <;> simp [SwitchesPage]
  | store => simp

/-- Settles O16: a page switch keeps every byte (`setPage_mem`), a store changes the one it addresses (`memWrite_mem`,
`bankWrite_mem`), and no other effect touches the pool or the bank. -/
theorem memoryChangesOnlyWhereAStoreAddresses : Obligations.MemoryChangesOnlyWhereAStoreAddresses := by
  intro i s t a hb h hne
  cases effect_of_exec h with
  | move | load | compute | divZero | domainFault | refused | noSlot | halt | loopBounds | loopCount | controlWord | statusWord
  | setVector | setMask | jump | call | ret | unwind | input | output => exact absurd rfl hne
  | internal x k rs =>
    rw [setInternal_frame] at hne
    exact absurd rfl hne
  | switchPage q | pop _ _ q | peek _ _ q | popStatus _ _ q => exact absurd (setPage_mem s hb q a) hne
  | push x f v rs hi hf =>
    have hm := memWrite_mem s hb (slotAddr (s.vsp + f.toNat)) v a
    exact .inl ⟨x, f, hi, hf, by_contra fun ha => hne (hm.trans (if_neg ha))⟩
  | poke x f rs hf =>
    have hm := memWrite_mem s hb (slotAddr (s.vsp - 1 - f.toNat)) (s.reg x) a
    exact .inr (.inl ⟨x, f, rfl, hf, by_contra fun ha => hne (hm.trans (if_neg ha))⟩)
  | store x o rs =>
    have hm := bankWrite_mem s (s.bankOffset o) (s.reg x) a
    refine .inr (.inr ⟨x, o, rfl, by_contra fun ha => hne (hm.trans (if_neg fun hpo => ha ?_))⟩)
    obtain ⟨hp, ho⟩ := hpo
    exact (addr_eq_iff a (addrOf s.page (s.bankOffset o))).2
      ⟨hp.trans (dataPage_addrOf ..).symm, ho.trans (pageOffset_addrOf ..).symm⟩

/-! ## The stack operations as one equation each (spec/43_stack_memory.md R151) -/

theorem push_eq (s : State) (f : BitVec 3) (v : Byte) : s.push f v =
    if 65535 < s.vsp + f.toNat then s.seterr else { s.memWrite (slotAddr (s.vsp + f.toNat)) v with vsp := s.vsp + 1 } := by
  rcases push_cases s f v with ⟨hf, h⟩ | ⟨hf, h⟩
  · rw [h, if_pos hf]
  · rw [h, if_neg hf.not_gt]

theorem poke_eq (s : State) (f : BitVec 3) (v : Byte) : s.poke f v =
    if s.vsp < 1 + f.toNat then s.seterr else s.memWrite (slotAddr (s.vsp - 1 - f.toNat)) v := by
  rcases poke_cases s f v with ⟨hf, h⟩ | ⟨hf, h⟩
  · rw [h, if_pos hf]
  · rw [h, if_neg hf.not_gt]

theorem popWith_eq (s : State) (f : BitVec 3) (drop : Nat) (use : Byte → State → State) : s.popWith f drop use =
    if s.vsp < 1 + f.toNat then s.seterr
    else use (s.mem (slotAddr (s.vsp - 1 - f.toNat)))
      { s.setPage (dataPage (slotAddr (s.vsp - 1 - f.toNat))) with vsp := s.vsp - drop } := by
  rcases popWith_cases s f drop use with ⟨hf, h⟩ | ⟨hf, h⟩
  · rw [h, if_pos hf]
  · rw [h, if_neg hf.not_gt]

/-! ## The instruction cache cannot be seen (spec/20_memory.md R55) -/

/-- `s` with another instruction cache. -/
def withCache (s : State) (c : Memory 16) (p : BitVec 10) : State := { s with icache := c, ipage := p }

/-- An operation on the state that neither looks at the instruction cache nor changes it. -/
def CacheBlind (f : State → State) : Prop := ∀ s c p, f (withCache s c p) = withCache (f s) c p

/-- A choice between blind operations, by something that is no part of the cache. -/
theorem blind_ite {f g : State → State} {q : State → Prop} [DecidablePred q] (hq : ∀ s c p, q (withCache s c p) ↔ q s)
    (hf : CacheBlind f) (hg : CacheBlind g) : CacheBlind fun s => if q s then f s else g s :=
  fun s c p => (if_congr (hq s c p) (hf s c p) (hg s c p)).trans (apply_ite (withCache · c p) (q s) (f s) (g s)).symm

/-! ### The shared operations are blind -/

section shared

variable (x y z : RegIx)

theorem readReg_withCache (s : State) (c : Memory 16) (p : BitVec 10) :
    ((withCache s c p).readReg x).st = withCache (s.readReg x).st c p := by
  simp only [readReg_st, withCache]

/-- An operand read followed by a blind use of what was read. -/
theorem blind_readThen {use : Byte → State → State} (hu : ∀ v, CacheBlind (use v)) :
    CacheBlind fun s => use (s.reg x) (s.readReg x).st :=
  fun s c p => (congrArg (use (s.reg x)) (readReg_withCache x s c p)).trans (hu _ _ c p)

theorem blind_writeReg {v : State → Byte} (hv : ∀ s c p, v (withCache s c p) = v s) :
    CacheBlind fun s => s.writeReg x (v s) := by
  intro s c p
  simp only [writeReg_eq, hv]
  rfl

theorem blind_setPage (q : Byte) : CacheBlind fun s => s.setPage q :=
  blind_ite (q := fun s => q = s.page) (fun _ _ _ => Iff.rfl) (fun _ _ _ => rfl) fun _ _ _ => rfl

theorem blind_memWrite (a : Word) (v : Byte) : CacheBlind fun s => s.memWrite a v :=
  fun s c p => congrArg (State.bankWrite · (pageOffset a) v) (blind_setPage (dataPage a) s c p)

theorem blind_privileged {body : State → State} (hb : CacheBlind body) : CacheBlind fun s => s.privileged body :=
  blind_ite (q := fun s => s.kernel = true) (fun _ _ _ => Iff.rfl) hb fun _ _ _ => rfl

theorem blind_aluOp (u : Byte → Byte → Byte → UnitOut) : CacheBlind fun s => s.aluOp x y z u := by
  intro s c p
  simp only [State.aluOp, readReg_val, readReg_st, writeReg_eq, State.reg, withCache]

theorem blind_unaryOp (u : Byte → Byte → UnitOut) : CacheBlind fun s => s.unaryOp x y u := by
  intro s c p
  simp only [State.unaryOp, readReg_val, readReg_st, writeReg_eq, State.reg, withCache]

/-- The immediate form has its destination for its source. -/
theorem blind_immOp (u : Byte → Byte → UnitOut) : CacheBlind fun s => s.immOp x u := blind_unaryOp x x u

/-- The test drops its result, as a normal write to register 0 does. -/
theorem blind_immTest (u : Byte → Byte → UnitOut) : CacheBlind fun s => s.immTest x u := blind_unaryOp 0 x u

theorem blind_divByZero : CacheBlind fun s => s.divByZero x y := by
  intro s c p
  simp only [State.divByZero, readReg_st, writeReg_eq, withCache]

theorem blind_divide (n : BitVec 3) (u : Byte → Byte → UnitOut) :
    CacheBlind fun s => if n = 0 then s.divByZero x y else s.unaryOp x y u :=
  blind_ite (q := fun _ => n = 0) (fun _ _ _ => Iff.rfl) (blind_divByZero x y) (blind_unaryOp x y u)

theorem blind_shiftByReg (u : Byte → Byte → Nat → UnitOut) : CacheBlind fun s => s.shiftByReg x y z u := by
  have hfault : CacheBlind fun s => ((s.readReg y).st.readReg z).st.raiseDomainFault := by
    intro s c p
    simp only [readReg_withCache]
    rfl
  have hamount (s : State) (c : Memory 16) (p : BitVec 10) :
      ((withCache s c p).readReg y).st.reg z = (s.readReg y).st.reg z := by
    rw [readReg_withCache]
    rfl
  exact blind_ite (q := fun s => 7 < ((s.readReg y).st.reg z).toNat) (fun s c p => by rw [hamount]) hfault
    (blind_aluOp x y z fun sw a n => u sw a n.toNat)

theorem blind_push (f : BitVec 3) (v : Byte) : CacheBlind fun s => s.push f v := by
  simp only [push_eq]
  exact blind_ite (fun _ _ _ => Iff.rfl) (fun _ _ _ => rfl) fun s c p =>
    congrArg (fun t : State => { t with vsp := s.vsp + 1 }) (blind_memWrite _ v s c p)

theorem blind_poke (f : BitVec 3) (v : Byte) : CacheBlind fun s => s.poke f v := by
  simp only [poke_eq]
  exact blind_ite (fun _ _ _ => Iff.rfl) (fun _ _ _ => rfl) fun s c p => blind_memWrite _ v s c p

theorem blind_popWith (f : BitVec 3) (drop : Nat) {use : Byte → State → State} (hu : ∀ v, CacheBlind (use v)) :
    CacheBlind fun s => s.popWith f drop use := by
  simp only [popWith_eq]
  refine blind_ite (fun _ _ _ => Iff.rfl) (fun _ _ _ => rfl) fun s c p => ?_
  have hpage := blind_setPage (dataPage (slotAddr (s.vsp - 1 - f.toNat))) s c p
  have hst := congrArg (fun t : State => { t with vsp := s.vsp - drop }) hpage
  exact (congrArg (use (s.mem (slotAddr (s.vsp - 1 - f.toNat)))) hst).trans
    (hu _ { s.setPage _ with vsp := s.vsp - drop } c p)

theorem blind_input (q : Byte) : CacheBlind fun s => (s.portRead q).st.writeReg x (s.portRead q).val := by
  intro s c p
  have hport : (withCache s c p).portRead q = ⟨(s.portRead q).val, withCache (s.portRead q).st c p⟩ := by
    have hdev : (withCache s c p).deviceAt q = s.deviceAt q := rfl
    unfold State.portRead
    rw [hdev]
    cases s.deviceAt q <;> rfl
  simp only [hport]
  exact blind_writeReg x (v := fun _ => (s.portRead q).val) (fun _ _ _ => rfl) _ c p

theorem blind_setInternal (k : BitVec 3) (v : Byte) : CacheBlind fun s => s.setInternal k v := by
  intro s c p
  rcases regIx_cases k with h | h | h | h | h | h | h | h <;> subst h <;> rfl

theorem blind_storeInternal (k : BitVec 3) : CacheBlind fun s => s.storeInternal x k :=
  blind_readThen x fun v => blind_setInternal k v

end shared

/-! ### Instructions, inputs and the interrupt check are blind -/

/-- Every instruction is a blind operation. -/
theorem exec_blind (i : Instr) : ∃ f, CacheBlind f ∧ ∀ s, exec i s = .next (f s) := by
  cases i with
  | nop | hlt0 | hlt1 | hlt2 | hlt3 | sys1 v | sys7 v | jmp a | cal a | ret0 | ret1 | ldi x v | mov2 x y | mov3 x y =>
    exact ⟨_, fun _ _ _ => rfl, fun _ => rfl⟩
  | sys0 v =>
    exact ⟨_, blind_readThen 0 (use := fun r s => { s with loopStart := r, loopEnd := v }) fun _ _ _ _ => rfl, fun _ => rfl⟩
  | sys2 v => exact ⟨_, blind_privileged (body := fun s => { s with cw := v }) fun _ _ _ => rfl, fun _ => rfl⟩
  | sys3 v => exact ⟨_, blind_privileged (body := fun s => { s with sw := v }) fun _ _ _ => rfl, fun _ => rfl⟩
  | sys6 v => exact ⟨_, blind_privileged (body := fun s => { s with mask := v }) fun _ _ _ => rfl, fun _ => rfl⟩
  | sys4 v => exact ⟨_, blind_setPage v, fun _ => rfl⟩
  | sys5 v =>
    exact ⟨_, blind_privileged (blind_readThen 0 (use := fun r s => s.setVector r v) fun _ _ _ _ => rfl), fun _ => rfl⟩
  | ldc x c v =>
    exact ⟨_, blind_ite (q := fun s => s.cond c = true) (f := fun s => s.writeDirect x (v.setWidth 8)) (g := id)
      (fun _ _ _ => Iff.rfl) (fun _ _ _ => rfl) fun _ _ _ => rfl, fun _ => rfl⟩
  | brc c o =>
    exact ⟨_, blind_ite (q := fun s => s.cond c = true) (f := fun s => { s with pc := s.targetBr o }) (g := id)
      (fun _ _ _ => Iff.rfl) (fun _ _ _ => rfl) fun _ _ _ => rfl, fun _ => rfl⟩
  | inp x p => exact ⟨_, blind_input x p, fun _ => rfl⟩
  | out x p => exact ⟨_, blind_readThen x (use := fun v s => s.portWrite p v) fun _ _ _ _ => rfl, fun _ => rfl⟩
  | lds x k => exact ⟨_, blind_writeReg x (v := fun s => s.internal k) fun _ _ _ => rfl, fun _ => rfl⟩
  | sts x k =>
    exact ⟨_, blind_ite (q := fun _ => internalGated k = true) (fun _ _ _ => Iff.rfl)
      (blind_privileged (blind_storeInternal x k)) (blind_storeInternal x k), fun _ => rfl⟩
  | pop0 x f | pop1 x f =>
    exact ⟨_, blind_popWith f _ fun v => blind_writeReg x (v := fun _ => v) fun _ _ _ => rfl, fun _ => rfl⟩
  | pop2 x f => exact ⟨_, blind_popWith f 1 (use := fun v s => { s with sw := v }) fun _ _ _ _ => rfl, fun _ => rfl⟩
  | pop3 x f => exact ⟨_, blind_popWith f 1 (use := fun _ s => s) fun _ _ _ _ => rfl, fun _ => rfl⟩
  | psh0 x f => exact ⟨_, blind_readThen x (blind_push f), fun _ => rfl⟩
  | psh1 x f => exact ⟨_, blind_readThen x (blind_poke f), fun _ => rfl⟩
  | psh2 x f => exact ⟨_, fun s => blind_push f s.sw s, fun _ => rfl⟩
  | psh3 x f => exact ⟨_, blind_push f 0, fun _ => rfl⟩
  | mld x o => exact ⟨_, blind_writeReg x (v := fun s => s.bankRead (s.bankOffset o)) fun _ _ _ => rfl, fun _ => rfl⟩
  | mst x o =>
    exact ⟨fun s => (s.readReg x).st.bankWrite (s.bankOffset o) (s.reg x), fun s => blind_readThen x
      (use := fun v t => t.bankWrite (s.bankOffset o) v) (fun _ _ _ _ => rfl) s, fun _ => rfl⟩
  | mov0 x y =>
    exact ⟨_, blind_readThen y (use := fun v s => (s.writeReg x v).writeDirect y 0) fun v s c p =>
      congrArg (State.writeDirect · y 0) (blind_writeReg x (v := fun _ => v) (fun _ _ _ => rfl) s c p), fun _ => rfl⟩
  | mov1 x y => exact ⟨_, blind_readThen y fun v => blind_writeReg x (v := fun _ => v) fun _ _ _ => rfl, fun _ => rfl⟩
  | adi x | ani x | ori x | xri x => exact ⟨_, blind_immOp x _, fun _ => rfl⟩
  | cpi x | tsi x => exact ⟨_, blind_immTest x _, fun _ => rfl⟩
  | add x y z | adc x y z | vad x y z | vac x y z | sub x y z | sbb x y z | vsb x y z | vsc x y z | or x y z | and x y z
  | xor x y z | imp x y z | nor x y z | nand x y z | xnor x y z | nimp x y z => exact ⟨_, blind_aluOp x y z _, fun _ => rfl⟩
  | lsl x y z | lsr x y z | rol x y z | asr x y z => exact ⟨_, blind_shiftByReg x y z _, fun _ => rfl⟩
  | lsli x y | lsri x y | roli x y | asri x y | muli x y | muhi x y | sqrt x y | clz x y | ctz x y | popc x y =>
    exact ⟨_, blind_unaryOp x y _, fun _ => rfl⟩
  | divi x y n | modi x y n => exact ⟨_, blind_divide x y n _, fun _ => rfl⟩

theorem blind_deliver (e : EnvEvent) : CacheBlind fun s => s.deliver e := by
  cases e with
  | irqRequest | activePop | portNotify => exact fun _ _ _ => rfl
  | start => exact blind_ite (q := fun s => s.run = .paused) (fun _ _ _ => Iff.rfl) (fun _ _ _ => rfl) fun _ _ _ => rfl
  | pause => exact blind_ite (q := fun s => s.run = .running) (fun _ _ _ => Iff.rfl) (fun _ _ _ => rfl) fun _ _ _ => rfl
  | stop => exact blind_ite (q := fun s => s.run = .faulted) (fun _ _ _ => Iff.rfl) (fun _ _ _ => rfl) fun _ _ _ => rfl

theorem blind_deliver_all (es : List EnvEvent) : CacheBlind fun s => es.foldl State.deliver s := by
  induction es with
  | nil => exact fun _ _ _ => rfl
  | cons e es ih => exact fun s c p => (congrArg (es.foldl State.deliver) (blind_deliver e s c p)).trans (ih _ c p)

theorem blind_takeInputs : CacheBlind State.takeInputs := by
  intro s c p
  cases h : s.inputs with
  | nil =>
    rw [takeInputs_nil s h]
    exact takeInputs_nil (withCache s c p) h
  | cons batch rest =>
    rw [takeInputs_cons h]
    exact (takeInputs_cons (s := withCache s c p) h).trans (blind_deliver_all batch { s with inputs := rest } c p)

theorem blind_checkInterrupt : CacheBlind State.checkInterrupt := by
  intro s c p
  have hpend : (withCache s c p).pend = s.pend := rfl
  unfold State.checkInterrupt
  rw [hpend]
  cases s.pend with
  | nil => rfl
  | cons q rest =>
    exact blind_ite (q := fun s => (s.irqGate && s.outranksActive q) = true) (f := fun s => s.enterInterrupt q rest) (g := id)
      (fun _ _ _ => Iff.rfl) (fun _ _ _ => rfl) (fun _ _ _ => rfl) s c p

/-! ### The fetch sees the cache, which holds what the store holds -/

theorem cacheAgrees_takeInputs {s : State} (h : s.cacheAgrees) : s.takeInputs.cacheAgrees := by
  unfold State.cacheAgrees
  rwa [takeInputs_icache, takeInputs_ipool, takeInputs_ipage]

theorem cacheAgrees_checkInterrupt {s : State} (h : s.cacheAgrees) : s.checkInterrupt.cacheAgrees := by
  unfold State.cacheAgrees
  rwa [checkInterrupt_icache, checkInterrupt_ipool, checkInterrupt_ipage]

/-- The word of the tick is the store's at the `pc` the interrupt check leaves (R54, R55). -/
theorem fetchedWord_eq {s : State} (h : s.cacheAgrees) : s.fetchedWord = s.ipool.read s.checkInterrupt.pc.toNat := by
  unfold State.fetchedWord
  rw [cachedWord_eq _ (cacheAgrees_checkInterrupt h), checkInterrupt_ipool]

theorem fetchedWord_withCache {s : State} {c : Memory 16} {p : BitVec 10} (h : s.cacheAgrees)
    (h' : (withCache s c p).cacheAgrees) : (withCache s c p).fetchedWord = s.fetchedWord := by
  rw [fetchedWord_eq h', fetchedWord_eq h, blind_checkInterrupt]
  rfl

theorem readyToExecute_withCache (s : State) (c : Memory 16) (p : BitVec 10) :
    ∃ c' p', (withCache s c p).readyToExecute = withCache s.readyToExecute c' p' := by
  unfold State.readyToExecute
  rw [blind_checkInterrupt, loadInstrPage_frame (withCache _ c p), loadInstrPage_frame s.checkInterrupt]
  exact ⟨_, _, rfl⟩

/-- From two states that differ only in caches that agree with the store, the step is the fault in both or leads to next states that
differ only in the cache. -/
theorem step_withCache {s : State} {c : Memory 16} {p : BitVec 10} (h : s.cacheAgrees) (h' : (withCache s c p).cacheAgrees) :
    (step s = .fault .domainFault ∧ step (withCache s c p) = .fault .domainFault) ∨
    ∃ t c' p', step s = .next t ∧ step (withCache s c p) = .next (withCache t c' p') := by
  have hin := blind_takeInputs s c p
  have hword := fetchedWord_withCache (cacheAgrees_takeInputs h) (hin ▸ cacheAgrees_takeInputs h')
  have hrun : (withCache s.takeInputs c p).run = s.takeInputs.run := rfl
  unfold step
  rw [hin, hrun]
  cases s.takeInputs.run with
  | running =>
    obtain ⟨f, hf, he⟩ := exec_blind (decode s.takeInputs.fetchedWord)
    obtain ⟨c', p', hready⟩ := readyToExecute_withCache s.takeInputs c p
    refine .inr ⟨_, c', p', he _, ?_⟩
    show exec (decode (withCache s.takeInputs c p).fetchedWord) (withCache s.takeInputs c p).readyToExecute = _
    rw [hword, hready, he, hf]
  | paused | stopped => exact .inr ⟨_, c, p, rfl, rfl⟩
  | faulted => exact .inl ⟨rfl, rfl⟩

/-- Settles O12, by `step_withCache`: the states differ by `withCache`. -/
theorem instructionCacheIsInvisible : Obligations.InstructionCacheIsInvisible := by
  intro s s' hsame h h'
  have hs' : s' = withCache s s'.icache s'.ipage := hsame
  rw [hs'] at h' ⊢
  rcases step_withCache h h' with ⟨hf, hf'⟩ | ⟨t, c, p, hn, hn'⟩
  · rw [hf, hf']
    exact ⟨fun _ => Iff.rfl, fun _ ht => nomatch ht⟩
  · rw [hn, hn']
    refine ⟨fun f => ⟨nofun, nofun⟩, fun u hu => ⟨_, rfl, ?_⟩⟩
    cases hu
    rfl

end Sys2Proof.Proofs

/-! PROOFS. The encoder and the decoder (spec/30_encoding.md R70 to R86): the layout of a word as a number, from which both round
trips on records follow by arithmetic, the map from records to instructions and back, and the rows of the opcode table. -/

namespace Sys2Proof.Proofs

open Sys2Proof.Laws

/-! ## Words, slices and records as numbers -/

theorem toNat_slice (w : Word) (lo len : Nat) : (slice w lo len).toNat = w.toNat / 2 ^ lo % 2 ^ len := by
  rw [slice, BitVec.extractLsb'_toNat, Nat.shiftRight_eq_div_pow]

/-- The number of two fields side by side; in this form `omega` reads a layout. -/
theorem toNat_append_add {m n : Nat} (a : BitVec m) (b : BitVec n) : (a ++ b).toNat = a.toNat * 2 ^ n + b.toNat := by
  rw [BitVec.toNat_append, ← Nat.shiftLeft_add_eq_or_of_lt b.isLt, Nat.shiftLeft_eq]

theorem fields_ext_toNat {f g : Fields} (hop : f.op = g.op) (hkind : f.kind.toNat = g.kind.toNat) (hx : f.x.toNat = g.x.toNat)
    (hy : f.y.toNat = g.y.toNat) (hz : f.z.toNat = g.z.toNat) (hraw : f.raw = g.raw) : f = g := by
  cases f; cases g
  simp only [BitVec.toNat_inj] at *
  simp only [*]

theorem wf_iff (c : OpClass) (f : Fields) : f.wf c = true ↔
    f.x.toNat < 2 ^ c.xBits ∧ f.y.toNat < 2 ^ c.yBits ∧ f.kind.toNat < 2 ^ c.kindBits ∧ f.z.toNat < 2 ^ c.zBits := by
  simp only [Fields.wf, Fields.xFits, Fields.yFits, Fields.kindFits, Fields.zFits, Bool.and_eq_true, decide_eq_true_eq, and_assoc]

/-! ## The places of the fields (R72) -/

/-- The lowest bit of field `x`. -/
def xLow : OpClass → Nat
  | .w11 => 0
  | _ => 8

/-- The lowest bit of field `y`. -/
def yLow : OpClass → Nat
  | .ri8 | .r6 => 0
  | _ => 5

/-- The lowest bit of the subtype. -/
def kindLow : OpClass → Nat
  | .s1 | .s2 => 0
  | _ => 3

/-- The lowest ignored bit and the number of ignored bits, which are always adjacent. -/
def ignoredRun : OpClass → Nat × Nat
  | .n => (0, 11)
  | .s1 => (1, 10)
  | .s2 => (2, 9)
  | .r6 => (6, 2)
  | .rr => (0, 5)
  | .rrt => (0, 3)
  | .ri8 | .rrr | .w11 | .rrtz => (0, 0)

theorem extractFields_op (c : OpClass) (w : Word) : (extractFields c w).op = slice w 11 5 := by cases c <;> rfl

theorem extractFields_raw (c : OpClass) (w : Word) : (extractFields c w).raw = w := by cases c <;> rfl

theorem extractFields_x (c : OpClass) (w : Word) :
    (extractFields c w).x.toNat = w.toNat / 2 ^ xLow c % 2 ^ c.xBits := by
  cases c <;> simp [extractFields, xLow, OpClass.xBits, toNat_slice, Nat.mod_one] <;> omega

theorem extractFields_y (c : OpClass) (w : Word) :
    (extractFields c w).y.toNat = w.toNat / 2 ^ yLow c % 2 ^ c.yBits := by
  cases c <;> simp [extractFields, yLow, OpClass.yBits, toNat_slice, Nat.mod_one] <;> omega

theorem extractFields_kind (c : OpClass) (w : Word) :
    (extractFields c w).kind.toNat = w.toNat / 2 ^ kindLow c % 2 ^ c.kindBits := by
  cases c <;> simp [extractFields, kindLow, OpClass.kindBits, toNat_slice, Nat.mod_one]; omega

theorem extractFields_z (c : OpClass) (w : Word) : (extractFields c w).z.toNat = w.toNat % 2 ^ c.zBits := by
  cases c <;> simp [extractFields, OpClass.zBits, toNat_slice, Nat.mod_one]; omega

/-- What the decoder extracts is well formed. -/
theorem wf_extractFields (c : OpClass) (w : Word) : (extractFields c w).wf c = true := by
  rw [wf_iff, extractFields_x, extractFields_y, extractFields_kind, extractFields_z]
  exact ⟨Nat.mod_lt _ (by simp), Nat.mod_lt _ (by simp), Nat.mod_lt _ (by simp), Nat.mod_lt _ (by simp)⟩

/-! ## The layout of the encoder -/

/-- The operand fields at their places; a field the class does not define adds 0. -/
def operandBits (c : OpClass) (f : Fields) : Nat :=
  f.x.toNat * 2 ^ xLow c + f.y.toNat * 2 ^ yLow c + f.kind.toNat * 2 ^ kindLow c + f.z.toNat

theorem toNat_encodeFields {f : Fields} (h : f.wf (classOf f.op) = true) :
    (encodeFields f).toNat = f.op.toNat * 2048 + operandBits (classOf f.op) f := by
  unfold encodeFields
  obtain ⟨hx, hy, hkind, hz⟩ := (wf_iff _ f).1 h
  generalize classOf f.op = c at *
  cases c <;> simp only [OpClass.xBits, OpClass.yBits, OpClass.kindBits, OpClass.zBits] at hx hy hkind hz <;>
    simp only [operandBits, xLow, yLow, kindLow, toNat_append_add, Fields.x3, Fields.y3, Fields.y6, Fields.z3,
      BitVec.toNat_setWidth, BitVec.toNat_zero] <;> omega

/-- The operand fields stay below the opcode. -/
theorem operandBits_lt {c : OpClass} {f : Fields} (h : f.wf c = true) : operandBits c f < 2048 := by
  obtain ⟨hx, hy, hkind, hz⟩ := (wf_iff _ f).1 h
  cases c <;> simp only [OpClass.xBits, OpClass.yBits, OpClass.kindBits, OpClass.zBits, operandBits, xLow, yLow, kindLow] at * <;>
    omega

theorem slice_op_encodeFields {f : Fields} (h : f.wf (classOf f.op) = true) : slice (encodeFields f) 11 5 = f.op := by
  apply BitVec.eq_of_toNat_eq
  rw [toNat_slice, toNat_encodeFields h]
  have := operandBits_lt h
  omega

/-- A class reads back the operand fields it laid out. -/
theorem operandBits_extract {c : OpClass} {f : Fields} (h : f.wf c = true) (n : Nat) :
    let w := n * 2048 + operandBits c f
    w / 2 ^ xLow c % 2 ^ c.xBits = f.x.toNat ∧ w / 2 ^ yLow c % 2 ^ c.yBits = f.y.toNat ∧
      w / 2 ^ kindLow c % 2 ^ c.kindBits = f.kind.toNat ∧ w % 2 ^ c.zBits = f.z.toNat := by
  obtain ⟨hx, hy, hkind, hz⟩ := (wf_iff _ f).1 h
  cases c <;> simp only [OpClass.xBits, OpClass.yBits, OpClass.kindBits, OpClass.zBits, operandBits, xLow, yLow, kindLow] at * <;>
    omega

theorem decodeFields_encodeFields {f : Fields} (h : f.wf (classOf f.op) = true) :
    decodeFields (encodeFields f) = { f with raw := encodeFields f } := by
  have hop := slice_op_encodeFields h
  obtain ⟨hx, hy, hkind, hz⟩ := operandBits_extract h f.op.toNat
  rw [← toNat_encodeFields h] at hx hy hkind hz
  rw [decodeFields, hop]
  exact fields_ext_toNat ((extractFields_op _ _).trans hop) ((extractFields_kind _ _).trans hkind)
    ((extractFields_x _ _).trans hx) ((extractFields_y _ _).trans hy) ((extractFields_z _ _).trans hz) (extractFields_raw _ _)

/-! ## Encoding a decoded word clears its ignored bits -/

theorem decodeFields_op (w : Word) : (decodeFields w).op = slice w 11 5 := extractFields_op _ w

theorem wf_decodeFields (w : Word) : (decodeFields w).wf (classOf (decodeFields w).op) = true := by
  rw [decodeFields_op]
  exact wf_extractFields _ w

/-- A run of `len` bits from bit `lo` on, as a number. -/
theorem and_run (w lo len : Nat) : w &&& (2 ^ len - 1) <<< lo = w / 2 ^ lo % 2 ^ len * 2 ^ lo := by
  rw [← Nat.shiftRight_eq_div_pow, ← Nat.and_two_pow_sub_one_eq_mod, ← Nat.shiftLeft_eq, Nat.shiftLeft_and_distrib]
  apply Nat.eq_of_testBit_eq
  intro i
  simp only [Nat.testBit_and, Nat.testBit_shiftLeft, Nat.testBit_two_pow_sub_one, Nat.testBit_shiftRight]
  grind

theorem toNat_and_ignoredBits (c : OpClass) (w : Word) : (w &&& ignoredBits c).toNat =
    w.toNat / 2 ^ (ignoredRun c).1 % 2 ^ (ignoredRun c).2 * 2 ^ (ignoredRun c).1 := by
  rw [← and_run, BitVec.toNat_and]
  cases c <;> rfl

/-- A word is the encoding of its record and its ignored bits. -/
theorem encodeFields_decodeFields_add (w : Word) :
    (encodeFields (decodeFields w)).toNat + (w &&& ignoredBits (classOf (decodeFields w).op)).toNat = w.toNat := by
  rw [toNat_encodeFields (wf_decodeFields w), toNat_and_ignoredBits, decodeFields_op, decodeFields, operandBits]
  generalize classOf (slice w 11 5) = c
  rw [extractFields_x, extractFields_y, extractFields_kind, extractFields_z, toNat_slice]
  have := w.isLt
  cases c <;> simp only [OpClass.xBits, OpClass.yBits, OpClass.kindBits, OpClass.zBits, xLow, yLow, kindLow, ignoredRun] <;> omega

/-- The bits under a mask and the others together are the word. -/
theorem and_add_and_not (w m : Word) : (w &&& ~~~ m) + (w &&& m) = w := by
  rw [BitVec.add_eq_or_of_and_eq_zero]
  · ext i
    simp only [BitVec.getElem_or, BitVec.getElem_and, BitVec.getElem_not]
    grind
  · ext i
    simp only [BitVec.getElem_and, BitVec.getElem_not, BitVec.getElem_zero]
    grind

theorem encodeFields_decodeFields (w : Word) :
    encodeFields (decodeFields w) = w &&& ~~~ ignoredBits (classOf (decodeFields w).op) := by
  generalize hm : ignoredBits (classOf (decodeFields w).op) = m
  refine add_right_cancel (b := w &&& m) (BitVec.eq_of_toNat_eq ?_)
  rw [and_add_and_not, BitVec.toNat_add, ← hm, encodeFields_decodeFields_add, Nat.mod_eq_of_lt w.isLt]

theorem encodeFields_decodeFields_eq_iff (w : Word) :
    encodeFields (decodeFields w) = w ↔ w &&& ignoredBits (classOf (decodeFields w).op) = 0 := by
  have h := encodeFields_decodeFields_add w
  rw [← BitVec.toNat_inj, ← BitVec.toNat_inj (y := 0), BitVec.ofNat_eq_ofNat, BitVec.toNat_zero]
  omega

/-- Settles O2: the layout as `toNat_encodeFields` gives it, class by class. -/
theorem encodeInvertsDecodeOnFields : Obligations.EncodeInvertsDecodeOnFields := by
  refine ⟨fun f h => ⟨?_, decodeFields_encodeFields h⟩,
    fun w => ⟨wf_decodeFields w, encodeFields_decodeFields_eq_iff w⟩, by decide⟩
  rw [toNat_encodeFields h]
  obtain ⟨hx, hy, hkind, hz⟩ := (wf_iff _ f).1 h
  generalize classOf f.op = c at *
  cases c <;> simp only [OpClass.xBits, OpClass.yBits, OpClass.kindBits, OpClass.zBits, operandBits, xLow, yLow, kindLow] at * <;>
    omega

/-! ## From records to instructions and back -/

/-! A 3-bit or 6-bit operand put into its wider field is read back. -/

@[simp] theorem x3_widened (op : BitVec 5) (k : BitVec 2) (x : BitVec 3) (y : BitVec 8) (z : BitVec 5) (w : Word) :
    (Fields.mk op k (x.setWidth 11) y z w).x3 = x := by simp [Fields.x3]

@[simp] theorem y3_widened (op : BitVec 5) (k : BitVec 2) (x : BitVec 11) (y : BitVec 3) (z : BitVec 5) (w : Word) :
    (Fields.mk op k x (y.setWidth 8) z w).y3 = y := by simp [Fields.y3]

@[simp] theorem y6_widened (op : BitVec 5) (k : BitVec 2) (x : BitVec 11) (y : BitVec 6) (z : BitVec 5) (w : Word) :
    (Fields.mk op k x (y.setWidth 8) z w).y6 = y := by simp [Fields.y6]

@[simp] theorem z3_widened (op : BitVec 5) (k : BitVec 2) (x : BitVec 11) (y : BitVec 8) (z : BitVec 3) (w : Word) :
    (Fields.mk op k x y (z.setWidth 5) w).z3 = z := by simp [Fields.z3]

/-- The row of its opcode makes an instruction again from its record, whatever the raw word. -/
theorem instr_fields (i : Instr) (w : Word) : (opRow i.fields.op).instr { i.fields with raw := w } = i := by
  cases i with
  | nop | hlt0 | hlt1 | hlt2 | hlt3 | ret0 | ret1 | jmp | cal | sys0 | sys1 | sys2 | sys3 | sys4 | sys5 | sys6 | sys7 => rfl
  | pop0 | pop1 | pop2 | pop3 | psh0 | psh1 | psh2 | psh3 | mov0 | mov1 | mov2 | mov3 | sqrt | clz | ctz | popc =>
    simp [Instr.fields, fieldsXY, mkFields, opRow, opmap, variantOf2, pick4]
  | add | adc | vad | vac | sub | sbb | vsb | vsc | or | and | xor | imp | nor | nand | xnor | nimp | lsl | lsr | rol | asr
  | lsli | lsri | roli | asri | muli | muhi | divi | modi =>
    simp [Instr.fields, fieldsXYZ, mkFields, opRow, opmap, variantOf, pick4]
  | ldc | brc | mld | mst | inp | out | lds | sts | ldi | adi | ani | ori | xri | cpi | tsi =>
    simp [Instr.fields, fieldsXB, fieldsXY, mkFields, opRow, opmap]

/-- The record of opcode `op` and class `c` with the operands of `f`, each cut to its place. -/
def record (op : BitVec 5) (c : OpClass) (f : Fields) : Fields :=
  match c with
  | .n => mkFields op 0 0 0 0
  | .s1 => mkFields op (if f.kind = 0 then 0 else 1) 0 0 0
  | .s2 => mkFields op f.kind 0 0 0
  | .ri8 => fieldsXB op f.x3 f.y
  | .rrr => mkFields op 0 (f.x3.setWidth 11) (f.y3.setWidth 8) f.z
  | .w11 => mkFields op 0 f.x 0 0
  | .r6 => fieldsXB op f.x3 (f.y6.setWidth 8)
  | .rr => fieldsXY op 0 f.x3 f.y3
  | .rrt => fieldsXY op f.kind f.x3 f.y3
  | .rrtz => fieldsXYZ op f.kind f.x3 f.y3 f.z3

/-- The one subtype bit of RET is its subtype. -/
theorem ret_kind (k : BitVec 2) (h : k.toNat < 2) : (if k = 0 then 0 else 1) = k := by revert k; decide

/-- A well-formed record is cut nowhere. -/
theorem record_of_wf {c : OpClass} {f : Fields} (h : f.wf c = true) : record f.op c f = { f with raw := 0 } := by
  obtain ⟨hx, hy, hkind, hz⟩ := (wf_iff _ f).1 h
  cases c <;> simp only [OpClass.xBits, OpClass.yBits, OpClass.kindBits, OpClass.zBits] at hx hy hkind hz <;>
    apply fields_ext_toNat
  case s1.hkind => exact congrArg BitVec.toNat (ret_kind f.kind hkind)
  all_goals simp [record, mkFields, fieldsXB, fieldsXY, fieldsXYZ, Fields.x3, Fields.y3, Fields.y6, Fields.z3]
  all_goals omega

/-- Cut to the places of its class, a record is well formed. -/
theorem wf_record (op : BitVec 5) (c : OpClass) (f : Fields) : (record op c f).wf c = true := by
  have hret : (if f.kind = 0 then 0 else 1 : BitVec 2).toNat < 2 := by split <;> decide
  have hx := f.x3.isLt
  have hy := f.y3.isLt
  have ho := f.y6.isLt
  have hz := f.z3.isLt
  rw [wf_iff]
  cases c
  case s1 => exact ⟨Nat.one_pos, Nat.one_pos, hret, Nat.one_pos⟩
  all_goals simp [record, mkFields, fieldsXB, fieldsXY, fieldsXYZ, OpClass.xBits, OpClass.yBits, OpClass.kindBits, OpClass.zBits]
  all_goals omega

/-- The operation of row `r` keeps every operand its class defines, and has the opcode number `op`. -/
def RowKeepsOperands (op : BitVec 5) (r : OpRow) : Prop := ∀ f : Fields, (r.instr f).fields = record op r.cls f

/-- What holds of the four results for their own subtypes holds of the one `pick4` takes. -/
theorem pick4_cases {α : Type} {P : BitVec 2 → α → Prop} {a b c d : α} (h : P 0 a ∧ P 1 b ∧ P 2 c ∧ P 3 d) (k : BitVec 2) :
    P k (pick4 k a b c d) := by
  obtain ⟨ha, hb, hc, hd⟩ := h
  obtain rfl | rfl | rfl | rfl : k = 0 ∨ k = 1 ∨ k = 2 ∨ k = 3 := by revert k; decide
  exacts [ha, hb, hc, hd]

theorem hlt_keepsOperands : RowKeepsOperands 1 ⟨.s2, fun f => pick4 f.kind .hlt0 .hlt1 .hlt2 .hlt3⟩ := fun f =>
  pick4_cases (P := fun k (i : Instr) => i.fields = mkFields 1 k 0 0 0) ⟨rfl, rfl, rfl, rfl⟩ f.kind

theorem sysOf_keepsOperands : RowKeepsOperands 2 ⟨.ri8, sysOf⟩ := by
  intro f
  show (sysOf f).fields = fieldsXB 2 f.x3 f.y
  unfold sysOf
  generalize f.x3 = x
  rcases x with ⟨⟨n, hn⟩⟩
  interval_cases n <;> rfl

theorem ret_keepsOperands : RowKeepsOperands 7 ⟨.s1, fun f => if f.kind = 0 then .ret0 else .ret1⟩ := by
  intro f
  show (if f.kind = 0 then Instr.ret0 else .ret1).fields = mkFields 7 (if f.kind = 0 then 0 else 1) 0 0 0
  split <;> rfl

theorem variantOf_keepsOperands {op : BitVec 5} {a b c d : RegIx → RegIx → BitVec 3 → Instr}
    (h : ∀ x y z, (a x y z).fields = fieldsXYZ op 0 x y z ∧ (b x y z).fields = fieldsXYZ op 1 x y z ∧
      (c x y z).fields = fieldsXYZ op 2 x y z ∧ (d x y z).fields = fieldsXYZ op 3 x y z) :
    RowKeepsOperands op ⟨.rrtz, variantOf a b c d⟩ := fun f =>
  pick4_cases (P := fun k (g : RegIx → RegIx → BitVec 3 → Instr) => (g f.x3 f.y3 f.z3).fields = fieldsXYZ op k f.x3 f.y3 f.z3)
    (h f.x3 f.y3 f.z3) f.kind

theorem variantOf2_keepsOperands {op : BitVec 5} {a b c d : RegIx → BitVec 3 → Instr}
    (h : ∀ x y, (a x y).fields = fieldsXY op 0 x y ∧ (b x y).fields = fieldsXY op 1 x y ∧
      (c x y).fields = fieldsXY op 2 x y ∧ (d x y).fields = fieldsXY op 3 x y) :
    RowKeepsOperands op ⟨.rrt, variantOf2 a b c d⟩ := fun f =>
  pick4_cases (P := fun k (g : RegIx → BitVec 3 → Instr) => (g f.x3 f.y3).fields = fieldsXY op k f.x3 f.y3) (h f.x3 f.y3) f.kind

/-- Every row of the map does: by definition but for SYS and the rows that branch on the subtype. -/
theorem opRow_keepsOperands (op : BitVec 5) : RowKeepsOperands op (opRow op) := by
  rcases op with ⟨⟨n, hn⟩⟩
  match n, hn with
  | 1, _ => exact hlt_keepsOperands
  | 2, _ => exact sysOf_keepsOperands
  | 7, _ => exact ret_keepsOperands
  | 12, _ | 13, _ | 17, _ | 31, _ => exact variantOf2_keepsOperands fun _ _ => ⟨rfl, rfl, rfl, rfl⟩
  | 24, _ | 25, _ | 26, _ | 27, _ | 28, _ | 29, _ | 30, _ => exact variantOf_keepsOperands fun _ _ _ => ⟨rfl, rfl, rfl, rfl⟩
  | 0, _ | 3, _ | 4, _ | 5, _ | 6, _ | 8, _ | 9, _ | 10, _ | 11, _ | 14, _ | 15, _ | 16, _ | 18, _ | 19, _ | 20, _ | 21, _
  | 22, _ | 23, _ => exact fun _ => rfl
  | n + 32, hn => exact absurd hn (by omega)

/-- The record of an instruction is one a row of the table makes, and so well formed. -/
theorem record_fields (i : Instr) : record i.fields.op (classOf i.fields.op) { i.fields with raw := 0 } = i.fields :=
  (opRow_keepsOperands i.fields.op _).symm.trans (congrArg Instr.fields (instr_fields i 0))

theorem wf_fields (i : Instr) : i.fields.wf (classOf i.fields.op) = true := by
  have h := wf_record i.fields.op (classOf i.fields.op) { i.fields with raw := 0 }
  rwa [record_fields] at h

/-- Settles O1: the word of an instruction decodes to its record (`decodeFields_encodeFields`), and the record to it. -/
theorem decodeOfEncodeIsTheInstruction : Obligations.DecodeOfEncodeIsTheInstruction := by
  intro i
  rw [decode, encode, slice_op_encodeFields (wf_fields i), decodeFields_encodeFields (wf_fields i), instr_fields]

/-! ## The instruction of a word keeps all that the word says -/

theorem fields_decode (w : Word) : (decode w).fields = { decodeFields w with raw := 0 } := by
  rw [← record_of_wf (wf_decodeFields w), decodeFields_op]
  exact opRow_keepsOperands _ _

/-- The encoder's word of what a word decodes to is the word without its ignored bits. -/
theorem encode_decode (w : Word) : encode (decode w) = w &&& ~~~ ignoredBits (classOf (slice w 11 5)) := by
  rw [← decodeFields_op, ← encodeFields_decodeFields, encode, fields_decode]
  rfl

/-! ## The rows of the opcode table (R80, R81) -/

/-- The mask of the rows of an opcode: its own bits, its subtype, and for SYS the sub-operation. -/
def rowMask (op : BitVec 5) : Word :=
  if op = 2 then 0xFF00 else
    match classOf op with
    | .s1 => 0xF801
    | .s2 => 0xF803
    | .rrt | .rrtz => 0xF818
    | .n | .ri8 | .rrr | .w11 | .r6 | .rr => 0xF800

/-- The mask of a row is that of its opcode. -/
theorem row_mask (i : Instr) : i.row.1 = rowMask i.fields.op := by cases i <;> rfl

/-- A mask tests no ignored bit. -/
theorem not_ignoredBits_and_rowMask (op : BitVec 5) : ~~~ ignoredBits (classOf op) &&& rowMask op = rowMask op := by
  revert op; decide

theorem slice_op_rowMask (op : BitVec 5) : slice (rowMask op) 11 5 = BitVec.allOnes 5 := by revert op; decide

/-- A mask keeps the opcode. -/
theorem slice_op_and_rowMask (w : Word) (op : BitVec 5) : slice (w &&& rowMask op) 11 5 = slice w 11 5 := by
  rw [slice, BitVec.extractLsb'_and, ← slice, ← slice, slice_op_rowMask, BitVec.and_allOnes]

/-- The encoder's word of an instruction matches its row: the row laws of all 76 kinds. -/
theorem encode_matches (i : Instr) : encode i &&& i.row.1 = i.row.2 := by
  change TableRow.Statement i
  cases i
  exacts [TableRow.nop, TableRow.hlt0, TableRow.hlt1, TableRow.hlt2, TableRow.hlt3, TableRow.sys0 _, TableRow.sys1 _,
    TableRow.sys2 _, TableRow.sys3 _, TableRow.sys4 _, TableRow.sys5 _, TableRow.sys6 _, TableRow.sys7 _, TableRow.ldc _ _ _,
    TableRow.jmp _, TableRow.brc _ _, TableRow.cal _, TableRow.ret0, TableRow.ret1, TableRow.inp _ _, TableRow.out _ _,
    TableRow.lds _ _, TableRow.sts _ _, TableRow.pop0 _ _, TableRow.pop1 _ _, TableRow.pop2 _ _, TableRow.pop3 _ _,
    TableRow.psh0 _ _, TableRow.psh1 _ _, TableRow.psh2 _ _, TableRow.psh3 _ _, TableRow.mld _ _, TableRow.mst _ _,
    TableRow.ldi _ _, TableRow.mov0 _ _, TableRow.mov1 _ _, TableRow.mov2 _ _, TableRow.mov3 _ _, TableRow.adi _ _,
    TableRow.ani _ _, TableRow.ori _ _, TableRow.xri _ _, TableRow.cpi _ _, TableRow.tsi _ _, TableRow.add _ _ _,
    TableRow.adc _ _ _, TableRow.vad _ _ _, TableRow.vac _ _ _, TableRow.sub _ _ _, TableRow.sbb _ _ _, TableRow.vsb _ _ _,
    TableRow.vsc _ _ _, TableRow.or _ _ _, TableRow.and _ _ _, TableRow.xor _ _ _, TableRow.imp _ _ _, TableRow.nor _ _ _,
    TableRow.nand _ _ _, TableRow.xnor _ _ _, TableRow.nimp _ _ _, TableRow.lsl _ _ _, TableRow.lsr _ _ _, TableRow.rol _ _ _,
    TableRow.asr _ _ _, TableRow.lsli _ _ _, TableRow.lsri _ _ _, TableRow.roli _ _ _, TableRow.asri _ _ _,
    TableRow.muli _ _ _, TableRow.muhi _ _ _, TableRow.divi _ _ _, TableRow.modi _ _ _, TableRow.sqrt _ _, TableRow.clz _ _,
    TableRow.ctz _ _, TableRow.popc _ _]

/-- The match of a row is a word of its kind. -/
theorem decode_row_match (i : Instr) : (decode i.row.2).ctorIdx = i.ctorIdx := by
  cases i <;> dsimp only [Instr.row] <;> rfl

theorem slice_row_match (i : Instr) : slice i.row.2 11 5 = i.fields.op := by
  rw [← encode_matches, row_mask, slice_op_and_rowMask, encode, slice_op_encodeFields (wf_fields i)]

/-- A word that matches a row has the opcode of the row. -/
theorem op_of_matches {w : Word} {i : Instr} (h : w &&& i.row.1 = i.row.2) : slice w 11 5 = i.fields.op := by
  rw [← slice_row_match, ← h, row_mask, slice_op_and_rowMask]

theorem op_decode (w : Word) : (decode w).fields.op = slice w 11 5 := by rw [fields_decode, ← decodeFields_op]

/-- Every word matches the row of the instruction it decodes to, as the encoder's word for that instruction does. -/
theorem matches_decode (w : Word) : w &&& (decode w).row.1 = (decode w).row.2 := by
  have h := encode_matches (decode w)
  rwa [encode_decode, BitVec.and_assoc, row_mask, op_decode, not_ignoredBits_and_rowMask, ← op_decode, ← row_mask] at h

/-- Settles O3: rows that one word matches have one opcode, so one mask and one match. -/
theorem everyWordMatchesExactlyItsRow : Obligations.EveryWordMatchesExactlyItsRow := by
  refine fun w => ⟨matches_decode w, fun j hj => ?_⟩
  have hmask : j.row.1 = (decode w).row.1 := by rw [row_mask, row_mask, op_decode, op_of_matches hj]
  have hmatch : j.row.2 = (decode w).row.2 := by rw [← hj, hmask, matches_decode]
  rw [← decode_row_match j, hmatch, decode_row_match]

/-! ## Worked words -/

theorem decode_of_encode_eq {w : Word} {i : Instr} (h : encode i = w) : decode w = i := by
  rw [← h, decodeOfEncodeIsTheInstruction]

/-- Settles O4: the words are the encoder's. -/
theorem spelledWordsDecode : Obligations.SpelledWordsDecode := by
  and_intros <;> exact decode_of_encode_eq (by decide)

end Sys2Proof.Proofs

/-! PROOFS. NOP, HLT and SYS (spec/40_system.md R100 to R110): the words of the no-ops by the opcode and the subtype they hold, and
each writing instruction as one equation of `exec`. -/

namespace Sys2Proof.Proofs

open Sys2Proof.Machine Sys2Proof.Laws Sys2Proof.Spec

/-! ## The words that change nothing (spec/30_encoding.md R72, R80, R82) -/

/-- A field that a mask keeps whole can be read off the masked word. -/
theorem slice_of_masked {w m v : Word} {lo len : Nat} (h : w &&& m = v) (hm : slice m lo len = BitVec.allOnes len) :
    slice w lo len = slice v lo len := by
  rw [← h, slice, slice, BitVec.extractLsb'_and, ← slice, ← slice, hm, BitVec.and_allOnes]

theorem decode_of_op_nop {w : Word} (hop : slice w 11 5 = 0) : decode w = .nop := by
  rw [decode, hop]
  rfl

/-- A word of opcode 2 is the sub-operation of SYS that its field `x` names. -/
theorem decode_of_op_sys {w : Word} (hop : slice w 11 5 = 2) :
    decode w = sysOf (decodeFields w) ∧ (decodeFields w).x3 = slice w 8 3 := by
  rw [decode, decodeFields, hop]
  exact ⟨rfl, x3_widened ..⟩

/-- A word of opcode 17 is the variant of MOV that its subtype names. -/
theorem decode_of_op_mov {w : Word} (hop : slice w 11 5 = 17) :
    decode w = variantOf2 .mov0 .mov1 .mov2 .mov3 (decodeFields w) ∧ (decodeFields w).kind = slice w 3 2 := by
  rw [decode, decodeFields, hop]
  exact ⟨rfl, rfl⟩

theorem sysOf_seven {f : Fields} (h : f.x3 = 7) : sysOf f = .sys7 f.y := by
  rw [sysOf, h]
  rfl

/-- The upper bit of the subtype of MOV tells variants 2 and 3, which do nothing, from the two that move. -/
theorem exec_mov_of_upper {f : Fields} (s : State) (h : 2 ≤ f.kind.toNat) :
    exec (variantOf2 .mov0 .mov1 .mov2 .mov3 f) s = .next s :=
  pick4_cases (P := fun k (g : RegIx → RegIx → Instr) => 2 ≤ k.toNat → exec (g f.x3 f.y3) s = .next s)
    ⟨fun h0 => absurd h0 (by decide), fun h1 => absurd h1 (by decide), fun _ => rfl, fun _ => rfl⟩ f.kind h

/-- A 2-bit field whose upper bit is 1 holds 2 or 3. -/
theorem two_le_slice {w : Word} {lo : Nat} (h : slice w (lo + 1) 1 = 1) : 2 ≤ (slice w lo 2).toNat := by
  have hbit : w.toNat / 2 ^ (lo + 1) % 2 = 1 := (toNat_slice w (lo + 1) 1).symm.trans (congrArg BitVec.toNat h)
  rw [Nat.pow_succ, ← Nat.div_div_eq_div_mul] at hbit
  rw [toNat_slice]
  omega

/-- Settles O25: the fixed bits of the word give its opcode and subtype (`slice_of_masked`), and these its instruction. -/
theorem noOperationsChangeNothing : Obligations.NoOperationsChangeNothing := by
  refine fun s v x y => ⟨rfl, rfl, rfl, rfl, fun w hw => ?_⟩
  obtain hnop | hsys | hmov := hw
  · rw [decode_of_op_nop (slice_of_masked hnop (by decide))]
    rfl
  · obtain ⟨hdecode, hx⟩ := decode_of_op_sys (slice_of_masked hsys (by decide))
    rw [hdecode, sysOf_seven (hx.trans (slice_of_masked hsys (by decide)))]
    rfl
  · obtain ⟨hdecode, hkind⟩ := decode_of_op_mov (slice_of_masked hmov (by decide))
    have hupper : slice w (3 + 1) 1 = 1 := slice_of_masked hmov (by decide)
    rw [hdecode]
    exact exec_mov_of_upper s (hkind ▸ two_le_slice hupper)

/-! ## HLT (R101, R102) -/

theorem step_of_stopped {s : State} (h : s.takeInputs.run = .stopped) : step s = .next s.takeInputs := by
  unfold step
  rw [h]

/-- A halted machine to which nothing is delivered does nothing. -/
theorem step_idle {s : State} (hin : s.inputs = []) (hrun : s.run = .stopped ∨ s.run = .paused) : step s = .next s := by
  have htake := takeInputs_nil s hin
  obtain hstopped | hpaused := hrun
  · rw [step_of_stopped ((congrArg State.run htake).trans hstopped), htake]
  · rw [step_of_paused ((congrArg State.run htake).trans hpaused), htake]

/-- Settles O26: both halted states idle by `step_idle`. -/
theorem haltStopsOrPauses : Obligations.HaltStopsOrPauses := fun _ =>
  ⟨rfl, rfl, rfl, rfl, fun hin => ⟨step_idle hin (.inl rfl), step_idle hin (.inr rfl)⟩, fun _ => rfl, fun _ => rfl⟩

/-! ## SYS (R103 to R109) -/

/-- An operand read of register 0 clears it. -/
theorem registersAre_readReg_zero (s : State) : RegistersAre s (s.readReg 0).st True 0 0 :=
  eq_self (0 : RegIx) ▸ registersAre_readReg s 0

theorem exec_sys0 (s : State) (v : Byte) : exec (.sys0 v) s = .next
    { s with regs := (s.readReg 0).st.regs, loopStart := s.reg 0, loopEnd := v } := by
  show Host.Outcome.next ({ (s.readReg 0).st with loopStart := s.reg 0, loopEnd := v } : State) = _
  rw [readReg_eq]

/-- Settles O27: the start latch is the operand read of register 0, which clears it. -/
theorem loopLatchesAreWritten : Obligations.LoopLatchesAreWritten := fun s v =>
  ⟨⟨_, exec_sys0 s v, rfl, registersAre_congr (registersAre_readReg_zero s) rfl rfl, fun _ => rfl⟩,
    ⟨_, rfl, rfl, fun _ => rfl⟩⟩

theorem exec_sys2_kernel (s : State) (v : Byte) (hk : s.kernel = true) : exec (.sys2 v) s = .next { s with cw := v } :=
  congrArg Host.Outcome.next (privileged_kernel s (fun s => { s with cw := v }) hk)

theorem exec_sys6_kernel (s : State) (v : Byte) (hk : s.kernel = true) : exec (.sys6 v) s = .next { s with mask := v } :=
  congrArg Host.Outcome.next (privileged_kernel s (fun s => { s with mask := v }) hk)

theorem exec_sys5_kernel (s : State) (v : Byte) (hk : s.kernel = true) : exec (.sys5 v) s = .next
    { s with regs := (s.readReg 0).st.regs, vt := Memory.write s.vt (vectorIndex (s.reg 0)) v } := by
  refine congrArg Host.Outcome.next ((privileged_kernel s (fun s => (s.readReg 0).st.setVector (s.reg 0) v) hk).trans ?_)
  rw [readReg_eq]
  rfl

/-- Settles O28: the vector written is the one at `vectorIndex` of register 0, every other entry is as before (`read_write`). -/
theorem sysWritesItsTargetInKernelMode : Obligations.SysWritesItsTargetInKernelMode := fun s v hk =>
  ⟨exec_sys2_kernel s v hk, exec_sys3_kernel s v hk, exec_sys6_kernel s v hk, fun _ => rfl, fun _ => rfl, fun _ => rfl,
    _, exec_sys5_kernel s v hk, rfl, registersAre_congr (registersAre_readReg_zero s) rfl rfl,
    fun _ _ => read_write .., fun _ => rfl⟩

end Sys2Proof.Proofs

/-! PROOFS. LDC, JMP, BRC and CAL (spec/41_control.md R120 to R126): the model's condition table tests what `Holds` says, the two kinds
of target as numbers, and the conditional instructions as one equation of `exec` for each outcome of the test. -/

namespace Sys2Proof.Proofs

open Sys2Proof.Machine Sys2Proof.Laws Sys2Proof.Spec

/-! ## Conditions (R120, R121) -/

/-- Each of the eight codes, in either table, tests the flag its row of R121 names. -/
theorem condTable_iff_holds (alt : Bool) (c : BitVec 3) (sw : Byte) : condTable alt c sw = true ↔ Holds alt c sw := by
  cases alt <;> obtain rfl | rfl | rfl | rfl | rfl | rfl | rfl | rfl := regIx_cases c <;> simp [condTable, Holds]

theorem cond_iff_holds (s : State) (c : BitVec 3) : s.cond c = true ↔ Holds (s.cw.getLsbD 2) c s.sw :=
  condTable_iff_holds s.altTable c s.sw

/-! ## Targets (R122) -/

/-- The target of JMP and CAL: a page number of eleven bits wraps at the 1024 pages of the store, a word address needs no wrap. -/
theorem target11_toNat (s : State) (a : BitVec 11) : (s.target11 a).toNat = jumpTarget s a := by
  unfold State.target11 jumpTarget State.pageJump
  split
  · exact BitVec.toNat_ofNat ..
  · exact BitVec.toNat_setWidth_of_le (by decide)

theorem instrPage_toNat (a : Word) : (instrPage a).toNat = a.toNat / 64 := by
  have hsplit := instrAddr_split a
  have hoffset := (branchOffset a).isLt
  omega

/-- The target of BRC: the first word of page `o`, or the word at offset `o` of the page `pc` is in. -/
theorem targetBr_toNat (s : State) (o : BitVec 6) : (s.targetBr o).toNat =
    if s.cw.getLsbD 1 = true then o.toNat * 64 else s.pc.toNat / 64 * 64 + o.toNat := by
  have ho := o.isLt
  unfold State.targetBr State.pageJump
  split
  · exact Nat.mod_eq_of_lt (by omega)
  · rw [toNat_append_add, instrPage_toNat]
    rfl

/-! ## LDC (R123) -/

theorem exec_ldc_taken {s : State} {c : BitVec 3} (h : Holds (s.cw.getLsbD 2) c s.sw) (x : RegIx) (v : BitVec 5) :
    exec (.ldc x c v) s = .next (s.writeDirect x (v.setWidth 8)) :=
  congrArg Host.Outcome.next (if_pos ((cond_iff_holds s c).2 h))

theorem exec_ldc_not_taken {s : State} {c : BitVec 3} (h : ¬ Holds (s.cw.getLsbD 2) c s.sw) (x : RegIx) (v : BitVec 5) :
    exec (.ldc x c v) s = .next s :=
  congrArg Host.Outcome.next (if_neg (mt (cond_iff_holds s c).1 h))

/-- Settles O31: the write of a taken LDC is the direct one, which register 0 takes like every other (`reg_writeDirect`). -/
theorem conditionalLoadFollowsTheConditionTable : Obligations.ConditionalLoadFollowsTheConditionTable := by
  refine fun s x c v => ⟨fun h => ⟨_, exec_ldc_taken h x v, ?_, fun j hj => ?_, rfl, fun _ => rfl⟩,
    fun h => exec_ldc_not_taken h x v⟩
  · rw [reg_writeDirect, if_pos rfl]
    exact BitVec.toNat_setWidth_of_le (by decide)
  · rw [reg_writeDirect, if_neg hj]

/-! ## JMP, BRC and CAL (R124 to R126) -/

theorem exec_brc_taken {s : State} {c : BitVec 3} (h : Holds (s.cw.getLsbD 2) c s.sw) (o : BitVec 6) :
    exec (.brc c o) s = .next { s with pc := s.targetBr o } :=
  congrArg Host.Outcome.next (if_pos ((cond_iff_holds s c).2 h))

theorem exec_brc_not_taken {s : State} {c : BitVec 3} (h : ¬ Holds (s.cw.getLsbD 2) c s.sw) (o : BitVec 6) :
    exec (.brc c o) s = .next s :=
  congrArg Host.Outcome.next (if_neg (mt (cond_iff_holds s c).1 h))

/-- Settles O32: the frame CAL pushes is one write of the ring at the pointer (`read_write_same`, `read_write_other`). -/
theorem jumpsBranchesAndCallsReachTheirTargets : Obligations.JumpsBranchesAndCallsReachTheirTargets := fun s a _ o =>
  ⟨⟨_, rfl, rfl, target11_toNat s a, fun _ => rfl⟩,
    fun h => ⟨_, exec_brc_taken h o, rfl, targetBr_toNat s o, fun _ => rfl⟩,
    fun h => exec_brc_not_taken h o,
    ⟨_, rfl, rfl, target11_toNat s a, read_write_same .., fun _ hk => read_write_other _ _ _ _ hk, fun _ => rfl⟩⟩

end Sys2Proof.Proofs

/-! PROOFS. LDS and STS (spec/42_port_internal.md R142, R143): the internal registers as numbers, what an allowed store comes to,
and the three stores that write a part of `pc`. -/

namespace Sys2Proof.Proofs

open Sys2Proof.Machine Sys2Proof.Laws Sys2Proof.Spec

/-! ## The parts of `pc` (spec/10_state.md R23) -/

theorem branchOffset_toNat (a : Word) : (branchOffset a).toNat = a.toNat % 64 := by
  have hsplit := instrAddr_split a
  have hoffset := (branchOffset a).isLt
  omega

theorem lowByte_toNat (a : Word) : (a.extractLsb' 0 8).toNat = a.toNat % 256 :=
  (toNat_slice a 0 8).trans (congrArg (· % 256) (Nat.div_one _))

theorem highByte_toNat (a : Word) : (a.extractLsb' 8 8).toNat = a.toNat / 256 := ((dataPage_eq_iff a _).1 rfl).symm

/-! ## LDS (R142) -/

/-- Each row of R142: `CSP` is widened, the last three rows are parts of `pc`, the others are bytes as they are. -/
theorem internal_toNat (s : State) (k : BitVec 3) : (s.internal k).toNat = internalValue s k := by
  obtain rfl | rfl | rfl | rfl | rfl | rfl | rfl | rfl := regIx_cases k
  · rfl
  · exact BitVec.toNat_setWidth_of_le (by decide)
  · rfl
  · rfl
  · rfl
  · exact (BitVec.toNat_setWidth_of_le (by decide)).trans (branchOffset_toNat s.pc)
  · exact lowByte_toNat s.pc
  · exact highByte_toNat s.pc

/-- Settles O38: LDS is the normal write of the internal register, whose number is the one of R142 (`internal_toNat`). -/
theorem internalLoadDeliversTheIndexedRegister : Obligations.InternalLoadDeliversTheIndexedRegister := fun s x k =>
  ⟨_, s.internal k, rfl, internal_toNat s k, registersAre_writeReg s x _, onlyRegisters_writeReg s x _⟩

/-! ## STS (R143) -/

/-- A store that is allowed reads its source, which clears register 0 if it is the source, and then writes its target. -/
theorem exec_sts_allowed (s : State) (x : RegIx) (k : BitVec 3) (hk : internalGated k = true → s.kernel = true) :
    exec (.sts x k) s = .next (({ s with regs := (s.readReg x).st.regs } : State).setInternal k (s.reg x)) := by
  have hread : s.storeInternal x k = ({ s with regs := (s.readReg x).st.regs } : State).setInternal k (s.reg x) :=
    congrArg (State.setInternal · k (s.reg x)) (readReg_eq s x)
  rw [← hread]
  cases hg : internalGated k with
  | true => exact exec_sts_kernel s x k hg (hk hg)
  | false => exact congrArg Host.Outcome.next (if_neg (Bool.eq_false_iff.1 hg))

theorem exec_sts_ungated (s : State) (x : RegIx) {k : BitVec 3} (hk : internalGated k = false) :
    exec (.sts x k) s = .next (({ s with regs := (s.readReg x).st.regs } : State).setInternal k (s.reg x)) :=
  exec_sts_allowed s x k fun hg => absurd hg (Bool.eq_false_iff.1 hk)

/-- The general registers after a store are those after the operand read of its source. -/
theorem registersAre_setInternal (s : State) (x : RegIx) (k : BitVec 3) (v : Byte) :
    RegistersAre s (({ s with regs := (s.readReg x).st.regs } : State).setInternal k v) (x = 0) 0 0 := by
  rw [setInternal_frame]
  exact registersAre_congr (registersAre_readReg s x) rfl rfl

theorem memoryKept_setInternal (s : State) (rs : Regs) (k : BitVec 3) (v : Byte) :
    MemoryKept s (({ s with regs := rs } : State).setInternal k v) := by
  rw [setInternal_frame]
  exact fun _ => rfl

/-- The three stores to `pc` put `v` in the place of its branch offset, its low byte or its high byte. -/
theorem setInternal_pc (s : State) (k : BitVec 3) (v : Byte) (n : Nat)
    (h : (k = 5 ∧ n = s.pc.toNat / 64 * 64 + v.toNat % 64) ∨ (k = 6 ∧ n = s.pc.toNat / 256 * 256 + v.toNat) ∨
      (k = 7 ∧ n = v.toNat * 256 + s.pc.toNat % 256)) :
    s.setInternal k v = { s with pc := (s.setInternal k v).pc } ∧ (s.setInternal k v).pc.toNat = n := by
  obtain ⟨rfl, rfl⟩ | ⟨rfl, rfl⟩ | ⟨rfl, rfl⟩ := h
  · refine ⟨rfl, (toNat_append_add (instrPage s.pc) (v.setWidth 6)).trans ?_⟩
    rw [instrPage_toNat, BitVec.toNat_setWidth]
    rfl
  · refine ⟨rfl, (toNat_append_add (s.pc.extractLsb' 8 8) v).trans ?_⟩
    rw [highByte_toNat]
    rfl
  · refine ⟨rfl, (toNat_append_add v (s.pc.extractLsb' 0 8)).trans ?_⟩
    rw [lowByte_toNat]
    rfl

/-- Settles O39: each index is one allowed store (`exec_sts_allowed`); those to `pc` are `setInternal_pc`. -/
theorem internalStoresReachTheirTarget : Obligations.InternalStoresReachTheirTarget := by
  intro s x
  have hregs (k : BitVec 3) := registersAre_setInternal s x k (s.reg x)
  have hmem (k : BitVec 3) := memoryKept_setInternal s (s.readReg x).st.regs k (s.reg x)
  refine ⟨⟨_, exec_sts_ungated s x rfl, rfl, hregs 0, hmem 0⟩,
    ⟨_, exec_sts_ungated s x rfl, rfl, BitVec.toNat_setWidth .., hregs 1, hmem 1⟩,
    ⟨_, exec_sts_ungated s x rfl, rfl, hregs 4, hmem 4⟩, fun hk => ?_⟩
  refine ⟨⟨_, exec_sts_allowed s x 2 fun _ => hk, rfl, hregs 2, hmem 2⟩,
    ⟨_, exec_sts_allowed s x 3 fun _ => hk, rfl, hregs 3, hmem 3⟩, fun k n hn => ?_⟩
  obtain ⟨hframe, hpc⟩ := setInternal_pc { s with regs := (s.readReg x).st.regs } k (s.reg x) n hn
  refine ⟨_, exec_sts_allowed s x k fun _ => hk, ?_, hpc, hregs k, hmem k⟩
  rw [hframe]

end Sys2Proof.Proofs

/-! PROOFS. POP, PSH, MLD and MST (spec/43_stack_memory.md R150 to R164): the states after a read and after a write at a slot of the
stack (`stackRead`, `stackWrite`), what each mode of POP and PSH comes to in these words, and a run of pushes (`Pushed`). -/

namespace Sys2Proof.Proofs

open Sys2Proof.Machine Sys2Proof.Laws Sys2Proof.Spec

/-! ## Slots (R150) -/

theorem slotAddr_toNat (n : Nat) : (slotAddr n).toNat = 65535 - n := by
  rw [slotAddr, BitVec.toNat_ofNat]
  omega

/-! ## An access to a slot -/

/-- `s` after a read at `a`, whose page is resident now, with these registers, this status word and `n` bytes on the stack. -/
def stackRead (s : State) (rs : Regs) (w : Byte) (a : Word) (n : Nat) : State :=
  { s.setPage (dataPage a) with regs := rs, sw := w, vsp := n }

/-- `s` after the write of `v` at `a`, with these registers and `n` bytes on the stack. -/
def stackWrite (s : State) (rs : Regs) (a : Word) (v : Byte) (n : Nat) : State :=
  { s.memWrite a v with regs := rs, vsp := n }

theorem stackAccess_stackRead (s : State) (rs : Regs) (w : Byte) (a : Word) (n : Nat) :
    StackAccess s (stackRead s rs w a n) a n := by
  have hframe := setPage_frame s (dataPage a)
  rw [setPage_page] at hframe
  unfold StackAccess stackRead
  rw [hframe]
  rfl

theorem dirtyAfterRead_stackRead (s : State) (rs : Regs) (w : Byte) (a : Word) (n : Nat) :
    DirtyAfterRead s (stackRead s rs w a n) a := by
  show (s.setPage (dataPage a)).dirty = true ↔ s.dirty = true ∧ dataPage a = s.page
  rw [setPage_dirty]
  by_cases hp : dataPage a = s.page <;> simp [hp]

theorem memoryKept_stackRead {s : State} (hb : s.bankAgrees) (rs : Regs) (w : Byte) (a : Word) (n : Nat) :
    MemoryKept s (stackRead s rs w a n) := setPage_mem s hb (dataPage a)

theorem stackAccess_stackWrite (s : State) (rs : Regs) (a : Word) (v : Byte) (n : Nat) :
    StackAccess s (stackWrite s rs a v n) a n := by
  unfold StackAccess stackWrite
  rw [memWrite_frame]
  rfl

theorem memoryIs_stackWrite {s : State} (hb : s.bankAgrees) (rs : Regs) (a : Word) (v : Byte) (n : Nat) :
    MemoryIs s (stackWrite s rs a v n) a v := by
  have hmem (c : Word) : (stackWrite s rs a v n).mem c = if c = a then v else s.mem c := memWrite_mem s hb a v c
  exact ⟨(hmem a).trans (if_pos rfl), fun c hc => (hmem c).trans (if_neg hc)⟩

theorem sw_stackWrite (s : State) (rs : Regs) (a : Word) (v : Byte) (n : Nat) : (stackWrite s rs a v n).sw = s.sw :=
  memWrite_sw s a v

/-- A write leaves the bank dirty, so nothing is asked of the pool (spec/20_memory.md R45 b). -/
theorem bankAgrees_stackWrite (s : State) (rs : Regs) (a : Word) (v : Byte) (n : Nat) : (stackWrite s rs a v n).bankAgrees :=
  fun hclean => nomatch hclean

/-! ## POP (R152 to R155) -/

/-- POP or peek of an occupied slot: `use` is given the byte there, and the state after the read. -/
theorem popWith_occupied {s : State} {f : BitVec 3} {a : Word} (hf : 1 + f.toNat ≤ s.vsp)
    (ha : slotAddr (s.vsp - 1 - f.toNat) = a) (drop : Nat) (use : Byte → State → State) :
    s.popWith f drop use = use (s.mem a) (stackRead s s.regs s.sw a (s.vsp - drop)) := by
  rw [popWith_eq, if_neg hf.not_gt, ha, stackRead, ← setPage_regs s (dataPage a), ← setPage_sw s (dataPage a)]

/-- The normal write of a popped byte, which is one to the registers before the read. -/
theorem writeReg_stackRead (s : State) (x : RegIx) (v w : Byte) (a : Word) (n : Nat) :
    (stackRead s s.regs w a n).writeReg x v = stackRead s (s.writeReg x v).regs w a n := by
  simp only [writeReg_eq, stackRead]

theorem exec_pop0_occupied {s : State} {f : BitVec 3} {a : Word} (hf : 1 + f.toNat ≤ s.vsp)
    (ha : slotAddr (s.vsp - 1 - f.toNat) = a) (x : RegIx) :
    exec (.pop0 x f) s = .next (stackRead s (s.writeReg x (s.mem a)).regs s.sw a (s.vsp - 1)) :=
  congrArg Host.Outcome.next ((popWith_occupied hf ha 1 _).trans (writeReg_stackRead s x ..))

theorem exec_pop1_occupied {s : State} {f : BitVec 3} {a : Word} (hf : 1 + f.toNat ≤ s.vsp)
    (ha : slotAddr (s.vsp - 1 - f.toNat) = a) (x : RegIx) :
    exec (.pop1 x f) s = .next (stackRead s (s.writeReg x (s.mem a)).regs s.sw a s.vsp) :=
  congrArg Host.Outcome.next ((popWith_occupied hf ha 0 _).trans (writeReg_stackRead s x ..))

theorem exec_pop2_occupied {s : State} {f : BitVec 3} {a : Word} (hf : 1 + f.toNat ≤ s.vsp)
    (ha : slotAddr (s.vsp - 1 - f.toNat) = a) (x : RegIx) :
    exec (.pop2 x f) s = .next (stackRead s s.regs (s.mem a) a (s.vsp - 1)) :=
  congrArg Host.Outcome.next (popWith_occupied hf ha 1 _)

theorem exec_pop3_occupied {s : State} {f : BitVec 3} {a : Word} (hf : 1 + f.toNat ≤ s.vsp)
    (ha : slotAddr (s.vsp - 1 - f.toNat) = a) (x : RegIx) :
    exec (.pop3 x f) s = .next (stackRead s s.regs s.sw a (s.vsp - 1)) :=
  congrArg Host.Outcome.next (popWith_occupied hf ha 1 _)

/-- Settles O40: each mode is a read at the slot (`stackRead`); modes 0 and 1 write the byte to `x` normally. -/
theorem popDeliversTheAddressedByte : Obligations.PopDeliversTheAddressedByte := by
  intro s x f a hb _ hf ha
  have haccess (rs : Regs) (w : Byte) (n : Nat) := stackAccess_stackRead s rs w a n
  have hdirty (rs : Regs) (w : Byte) (n : Nat) := dirtyAfterRead_stackRead s rs w a n
  have hmem (rs : Regs) (w : Byte) (n : Nat) := memoryKept_stackRead hb rs w a n
  have hregs (n : Nat) : RegistersAre s (stackRead s (s.writeReg x (s.mem a)).regs s.sw a n) False x (s.mem a) :=
    registersAre_congr (registersAre_writeReg s x _) rfl rfl
  refine ⟨ha ▸ slotAddr_toNat _, ?_, ?_, ?_, ?_⟩
  · exact ⟨_, exec_pop0_occupied hf ha x, haccess .., hregs _, rfl, hdirty .., hmem _ _ _⟩
  · exact ⟨_, exec_pop1_occupied hf ha x, haccess .., hregs _, rfl, hdirty .., hmem _ _ _⟩
  · exact ⟨_, exec_pop2_occupied hf ha x, haccess .., rfl, rfl, hdirty .., hmem _ _ _⟩
  · exact ⟨_, exec_pop3_occupied hf ha x, haccess .., rfl, rfl, hdirty .., hmem _ _ _⟩

/-! ## PSH (R157 to R160) -/

/-- A push with room, after an operand read or none. -/
theorem push_room {s : State} {f : BitVec 3} {a : Word} (hf : s.vsp + f.toNat ≤ 65535) (ha : slotAddr (s.vsp + f.toNat) = a)
    (rs : Regs) (v : Byte) : ({ s with regs := rs } : State).push f v = stackWrite s rs a v (s.vsp + 1) := by
  rw [push_eq, if_neg hf.not_gt, ha, memWrite_with_regs]
  rfl

theorem exec_psh0_room {s : State} {f : BitVec 3} {a : Word} (hf : s.vsp + f.toNat ≤ 65535)
    (ha : slotAddr (s.vsp + f.toNat) = a) (x : RegIx) :
    exec (.psh0 x f) s = .next (stackWrite s (s.readReg x).st.regs a (s.reg x) (s.vsp + 1)) := by
  show Host.Outcome.next ((s.readReg x).st.push f (s.reg x)) = _
  rw [readReg_eq, push_room hf ha]

theorem exec_psh2_room {s : State} {f : BitVec 3} {a : Word} (hf : s.vsp + f.toNat ≤ 65535)
    (ha : slotAddr (s.vsp + f.toNat) = a) (x : RegIx) :
    exec (.psh2 x f) s = .next (stackWrite s s.regs a s.sw (s.vsp + 1)) :=
  congrArg Host.Outcome.next (push_room hf ha s.regs s.sw)

theorem exec_psh3_room {s : State} {f : BitVec 3} {a : Word} (hf : s.vsp + f.toNat ≤ 65535)
    (ha : slotAddr (s.vsp + f.toNat) = a) (x : RegIx) :
    exec (.psh3 x f) s = .next (stackWrite s s.regs a 0 (s.vsp + 1)) :=
  congrArg Host.Outcome.next (push_room hf ha s.regs 0)

theorem exec_psh1_occupied {s : State} {f : BitVec 3} {a : Word} (hf : 1 + f.toNat ≤ s.vsp)
    (ha : slotAddr (s.vsp - 1 - f.toNat) = a) (x : RegIx) :
    exec (.psh1 x f) s = .next (stackWrite s (s.readReg x).st.regs a (s.reg x) s.vsp) := by
  show Host.Outcome.next ((s.readReg x).st.poke f (s.reg x)) = _
  rw [readReg_eq, poke_eq, if_neg hf.not_gt, ha, memWrite_with_regs, stackWrite, ← memWrite_vsp s a (s.reg x)]

/-- The registers after a write to the stack whose operand is `x` are those after the read of `x`. -/
theorem registersAre_stackWrite (s : State) (x : RegIx) (a : Word) (v : Byte) (n : Nat) :
    RegistersAre s (stackWrite s (s.readReg x).st.regs a v n) (x = 0) 0 0 :=
  registersAre_congr (registersAre_readReg s x) rfl rfl

/-- Settles O41: each mode is a write at the slot (`stackWrite`); mode 0 has read `x`. -/
theorem pushStoresAtTheNextSlot : Obligations.PushStoresAtTheNextSlot := by
  intro s x f a hb hf ha
  have haccess (rs : Regs) (v : Byte) := stackAccess_stackWrite s rs a v (s.vsp + 1)
  have hsw (rs : Regs) (v : Byte) := sw_stackWrite s rs a v (s.vsp + 1)
  have hmem (rs : Regs) (v : Byte) := memoryIs_stackWrite hb rs a v (s.vsp + 1)
  refine ⟨ha ▸ slotAddr_toNat _, ?_, ?_, ?_⟩
  · exact ⟨_, exec_psh0_room hf ha x, haccess .., registersAre_stackWrite .., hsw .., rfl, hmem ..⟩
  · exact ⟨_, exec_psh2_room hf ha x, haccess .., rfl, hsw .., rfl, hmem ..⟩
  · exact ⟨_, exec_psh3_room hf ha x, haccess .., rfl, hsw .., rfl, hmem ..⟩

/-- Settles O42: the poke is a write at an occupied slot that leaves the count as it is (`exec_psh1_occupied`). -/
theorem pokeOverwritesTheAddressedByte : Obligations.PokeOverwritesTheAddressedByte := by
  intro s x f a hb _ hf ha
  exact ⟨ha ▸ slotAddr_toNat _, _, exec_psh1_occupied hf ha x, stackAccess_stackWrite .., registersAre_stackWrite ..,
    sw_stackWrite .., rfl, memoryIs_stackWrite hb ..⟩

/-! ## No slot (R151) -/

/-- Setting the error flag after an operand read or none (`t` is the state after it) is an abort. -/
theorem aborts_of_seterr {i : Instr} {s t u : State} {clears : Prop} (hexec : exec i s = .next u) (hu : u = t.seterr)
    (ht : t = { s with regs := t.regs }) (hregs : RegistersAre s t clears 0 0) : Aborts i s clears := by
  have hseterr : u = { s with regs := t.regs, sw := setErr s.sw } := by
    rw [hu, ht]
    rfl
  rw [hseterr] at hexec
  exact ⟨_, hexec, registersAre_congr hregs rfl rfl, errorSet_setErr s.sw, ⟨rfl, fun _ => rfl⟩⟩

theorem aborts_unread {i : Instr} {s u : State} (hexec : exec i s = .next u) (hu : u = s.seterr) : Aborts i s False :=
  aborts_of_seterr hexec hu rfl (registersAre_writeReg s 0 0)

theorem aborts_read {i : Instr} {s u : State} {x : RegIx} (hexec : exec i s = .next u) (hu : u = (s.readReg x).st.seterr) :
    Aborts i s (x = 0) :=
  aborts_of_seterr hexec hu (readReg_eq s x) (registersAre_readReg s x)

theorem readReg_vsp (s : State) (x : RegIx) : (s.readReg x).st.vsp = s.vsp := by rw [readReg_st]

/-- Settles O43: without a slot, `popWith_eq`, `poke_eq` and `push_eq` set the error flag alone. -/
theorem stackBoundsSetTheErrorFlag : Obligations.StackBoundsSetTheErrorFlag := by
  intro s x f
  refine ⟨fun hf => ?_, fun hf => ?_⟩
  · have hpop (drop : Nat) (use : Byte → State → State) : s.popWith f drop use = s.seterr :=
      (popWith_eq s f drop use).trans (if_pos hf)
    have hpoke : (s.readReg x).st.poke f (s.reg x) = (s.readReg x).st.seterr := by
      rw [poke_eq, readReg_vsp, if_pos hf]
    exact ⟨aborts_unread rfl (hpop ..), aborts_unread rfl (hpop ..), aborts_unread rfl (hpop ..),
      aborts_unread rfl (hpop ..), aborts_read rfl hpoke⟩
  · have hpush (v : Byte) : s.push f v = s.seterr := (push_eq s f v).trans (if_pos hf)
    have hpushRead : (s.readReg x).st.push f (s.reg x) = (s.readReg x).st.seterr := by
      rw [push_eq, readReg_vsp, if_pos hf]
    exact ⟨aborts_read rfl hpushRead, aborts_unread rfl (hpush _), aborts_unread rfl (hpush _)⟩

/-! ## A run of pushes (R150, R157) -/

/-- `t` is `s`, whose stack was empty, after the bytes `vs` were pushed: they lie at 65535 downward. -/
structure Pushed (s : State) (vs : List Byte) (t : State) : Prop where
  bank   : t.bankAgrees
  count  : t.vsp = vs.length
  status : t.sw = s.sw
  bytes  : ∀ a : Word, t.mem a = if 65535 - a.toNat < vs.length then vs.getD (65535 - a.toNat) 0 else s.mem a

theorem pushed_nil {s : State} (hb : s.bankAgrees) (hempty : s.vsp = 0) : Pushed s [] s :=
  ⟨hb, hempty, rfl, fun _ => rfl⟩

theorem pushed_push {s t : State} {vs : List Byte} (h : Pushed s vs t) (hroom : vs.length ≤ 65535) (v : Byte) :
    Pushed s (vs ++ [v]) (t.push 0 v) := by
  obtain ⟨hb, hcount, hstatus, hbytes⟩ := h
  have hpush : t.push 0 v = stackWrite t t.regs (slotAddr vs.length) v (vs.length + 1) := by
    rw [push_zero t v (hcount ▸ hroom), hcount]
    simp only [stackWrite, ← memWrite_regs t (slotAddr vs.length) v]
  have hlen : (vs ++ [v]).length = vs.length + 1 := List.length_append
  rw [hpush]
  refine ⟨bankAgrees_stackWrite _ _ _ _ _, hlen.symm, (sw_stackWrite ..).trans hstatus, fun a => ?_⟩
  have hslot := slotAddr_toNat vs.length
  have ha := a.isLt
  obtain ⟨hwritten, hother⟩ := memoryIs_stackWrite hb t.regs (slotAddr vs.length) v (vs.length + 1)
  rw [hlen]
  by_cases hat : a = slotAddr vs.length
  · have hindex : 65535 - a.toNat = vs.length := by rw [hat]; omega
    rw [hat, hwritten, ← hat, hindex, if_pos vs.length.lt_succ_self, List.getD_append_right _ _ _ _ le_rfl, Nat.sub_self]
    rfl
  · have hindex : 65535 - a.toNat ≠ vs.length := fun heq => hat (BitVec.eq_of_toNat_eq (by omega))
    rw [hother a hat, hbytes]
    by_cases hlt : 65535 - a.toNat < vs.length
    · rw [if_pos hlt, if_pos (by omega), List.getD_append _ _ _ _ hlt]
    · rw [if_neg hlt, if_neg (by omega)]

/-- From an empty stack every run of up to 65536 pushes is as `Pushed` says: each of them has room. -/
theorem pushed_foldl {s : State} (hb : s.bankAgrees) (hempty : s.vsp = 0) (vs : List Byte) (hlen : vs.length ≤ 65536) :
    Pushed s vs (vs.foldl (fun s v => s.push 0 v) s) := by
  induction vs using List.reverseRecOn with
  | nil => exact pushed_nil hb hempty
  | append_singleton vs v ih =>
    rw [List.length_append, List.length_singleton] at hlen
    rw [List.foldl_concat]
    exact pushed_push (ih (by omega)) (by omega) v

theorem push_zero_full {s : State} (hfull : s.vsp = 65536) (v : Byte) : s.push 0 v = s.seterr :=
  (push_eq s 0 v).trans (if_pos (show 65535 < s.vsp + 0 by omega))

/-- Settles O44, by induction on the bytes pushed, the last one last (`pushed_foldl`). -/
theorem stackHoldsSixtyFourKibibytes : Obligations.StackHoldsSixtyFourKibibytes := by
  intro s vs hb hempty hlen
  obtain ⟨-, hcount, hstatus, hbytes⟩ := pushed_foldl hb hempty vs hlen
  refine ⟨hcount, hstatus, fun a ha => (hbytes a).trans (if_pos ha), fun a ha => (hbytes a).trans (if_neg ha.not_gt),
    fun hfull v => ?_⟩
  rw [push_zero_full (hcount.trans hfull)]
  exact ⟨errorSet_setErr _, hcount.trans hfull, fun _ => rfl⟩

/-! ## MLD and MST (R163, R164) -/

/-- The offset in the page wraps at 256 (R163). -/
theorem bankOffset_toNat (s : State) (o : BitVec 6) : (s.bankOffset o).toNat = (s.ap.toNat + o.toNat) % 256 := by
  rw [State.bankOffset, BitVec.toNat_add, BitVec.toNat_setWidth_of_le (by decide)]

/-- Settles O45: the byte of the bank is the one of memory there (`mem_addrOf_page`). -/
theorem memoryLoadReadsTheResidentPage : Obligations.MemoryLoadReadsTheResidentPage := by
  rintro s x o _ rfl
  have haddr : (s.page ++ s.bankOffset o).toNat = 256 * s.page.toNat + (s.ap.toNat + o.toNat) % 256 :=
    (addrOf_toNat s.page (s.bankOffset o)).trans (by rw [bankOffset_toNat])
  have hbyte : s.mem (s.page ++ s.bankOffset o) = s.bankRead (s.bankOffset o) := mem_addrOf_page s _
  refine ⟨haddr, s.writeReg x (s.bankRead (s.bankOffset o)), rfl, ?_, onlyRegisters_writeReg s x _⟩
  rw [hbyte]
  exact registersAre_writeReg s x _

/-- Settles O46: the store (`exec_mst`) is a write to the bank, which changes one address of the resident page (`bankWrite_mem`). -/
theorem memoryStoreWritesTheResidentPage : Obligations.MemoryStoreWritesTheResidentPage := by
  rintro s x o _ rfl
  have hmem (b : Word) : (s.bankWrite (s.bankOffset o) (s.reg x)).mem b =
      if b = addrOf s.page (s.bankOffset o) then s.reg x else s.mem b := by
    simp only [bankWrite_mem, addr_eq_iff b, dataPage_addrOf, pageOffset_addrOf]
  exact ⟨_, exec_mst s x o, rfl, registersAre_congr (registersAre_readReg s x) rfl rfl, (hmem _).trans (if_pos rfl),
    fun b hb => (hmem b).trans (if_neg hb)⟩

end Sys2Proof.Proofs

/-! PROOFS. LDI, MOV and the immediate operations (spec/44_move_imm.md R170 to R180): from a frame and one equation for every register
to `OnlyRegisters`, `RegistersAre` and `Completes`, the flag shape of spec/45_alu.md R191 as `FlagsAre`, and the arithmetic units as
the relations `Sum`, `Difference` and `Bitwise`. -/

namespace Sys2Proof.Proofs

open Sys2Proof.Machine Sys2Proof.Laws Sys2Proof.Spec

/-! ## Instructions that touch the registers and the flags alone -/

section frames

variable {s t : State} {x : RegIx} {v : Byte}

theorem onlyRegisters_of_frame (ht : t = { s with regs := t.regs }) : OnlyRegisters s t :=
  ⟨ht, fun _ => by rw [ht]; rfl⟩

theorem onlyRegistersAndFlags_of_frame (ht : t = { s with regs := t.regs, sw := t.sw }) : OnlyRegistersAndFlags s t :=
  ⟨ht, fun _ => by rw [ht]; rfl⟩

/-- One equation for every register, in the form of `reg_after`, is all that `RegistersAre` says. -/
theorem registersAre_of_reg {clears : Prop} [Decidable clears]
    (hreg : ∀ j, t.reg j = if j = x ∧ x ≠ 0 then v else if clears ∧ j = 0 then 0 else s.reg j) :
    RegistersAre s t clears x v where
  written hx := by rw [hreg, if_pos ⟨rfl, hx⟩]
  zeroRead hc := by rw [hreg, if_neg fun h => h.2 h.1.symm, if_pos ⟨hc, rfl⟩]
  zeroKept hc := by rw [hreg, if_neg fun h => h.2 h.1.symm, if_neg fun h => hc h.1]
  others j h0 hx := by rw [hreg, if_neg fun h => hx h.1, if_neg fun h => h0 h.2]

/-- An instruction that writes a unit's result and its status word completes, if the unit's answer `u` is good. -/
theorem completes_of_unit {i : Instr} {u : UnitOut} {clears : Prop} [Decidable clears] {good : Byte → Byte → Prop}
    (hexec : exec i s = .next t) (hframe : t = { s with regs := t.regs, sw := u.sw })
    (hreg : ∀ j, t.reg j = if j = x ∧ x ≠ 0 then u.r else if clears ∧ j = 0 then 0 else s.reg j) (hgood : good u.r u.sw) :
    Completes i s clears x good := by
  have hsw : t.sw = u.sw := congrArg State.sw hframe
  refine ⟨t, u.r, hexec, hsw ▸ hgood, registersAre_of_reg hreg, onlyRegistersAndFlags_of_frame ?_⟩
  rw [hsw]
  exact hframe

end frames

/-! ## The flags of a result (spec/45_alu.md R190, R191) -/

theorem sign_eq_decide (r : Byte) : r.getLsbD 7 = decide (128 ≤ r.toNat) :=
  (BitVec.msb_eq_getLsbD_last r).symm.trans (BitVec.msb_eq_decide r)

/-- The model counts 1 bits in a list of positions, R191 in a set of them. -/
theorem popCount_eq_card (r : Byte) : popCount r = ((Finset.range 8).filter fun i => r.toNat.testBit i = true).card :=
  congrArg List.length (List.filter_congr fun _ _ => Bool.decide_eq_true.symm)

theorem flagsAre_flagsOf (sw r : Byte) {c a v : Bool} {C A V : Prop} (hc : c = true ↔ C) (ha : a = true ↔ A)
    (hv : v = true ↔ V) : FlagsAre sw (flagsOf sw c a v r) C A V r where
  carry := by rw [flagsOf_C, hc]
  auxCarry := by rw [flagsOf_A, ha]
  overflow := by rw [flagsOf_V, hv]
  zero := by rw [flagsOf_Z, beq_iff_eq, BitVec.toNat_eq]; rfl
  sign := by rw [flagsOf_S, sign_eq_decide, decide_eq_true_iff]
  parity := by rw [flagsOf_P, ← popCount_eq_card]; exact beq_iff_eq
  error := flagsOf_E ..
  reserved := flagsOf_r3 ..

theorem plain_plainOut (sw r : Byte) : Plain sw (plainOut sw r).r (plainOut sw r).sw :=
  flagsAre_flagsOf sw r Bool.false_eq_true.to_iff Bool.false_eq_true.to_iff Bool.false_eq_true.to_iff

/-! ## The arithmetic unit (spec/45_alu.md R192, R193, R197) -/

/-- Operands of one sign and a result of the other: the sign rule of R192 finds the signed sums that do not fit a byte. -/
theorem overflowAdd_iff {a b r : Byte} {c : Bool} (hr : r.toNat = (a.toNat + b.toNat + c.toNat) % 256) :
    overflowAdd a b r = true ↔ a.toInt + b.toInt + c.toNat < -128 ∨ 127 < a.toInt + b.toInt + c.toNat := by
  have ha := a.isLt
  have hb := b.isLt
  have hc := c.toNat_le
  simp only [overflowAdd, sign_eq_decide, BitVec.toInt_eq_toNat_cond, Bool.and_eq_true, beq_iff_eq, bne_iff_ne, ne_eq,
    decide_eq_decide]
  split <;> split <;> omega

/-- Operands of different signs and a result not of the first's (R193). -/
theorem overflowSub_iff {a b r : Byte} {c : Bool} (hr : (r.toNat : Int) = ((a.toNat : Int) - b.toNat - c.toNat) % 256) :
    overflowSub a b r = true ↔ a.toInt - b.toInt - c.toNat < -128 ∨ 127 < a.toInt - b.toInt - c.toNat := by
  have ha := a.isLt
  have hb := b.isLt
  have hc := c.toNat_le
  simp only [overflowSub, sign_eq_decide, BitVec.toInt_eq_toNat_cond, Bool.and_eq_true, bne_iff_ne, ne_eq, decide_eq_decide]
  split <;> split <;> omega

theorem sum_add8 (c : Bool) (sw a b : Byte) : Sum sw a b c (add8 c sw a b).r (add8 c sw a b).sw := by
  have hr : (add8 c sw a b).r.toNat = (a.toNat + b.toNat + c.toNat) % 256 := BitVec.toNat_ofNat ..
  exact ⟨hr, flagsAre_flagsOf sw _ decide_eq_true_iff decide_eq_true_iff (overflowAdd_iff hr)⟩

/-- The unit adds 512 before it subtracts, so that no borrow is lost in the natural numbers. -/
theorem sub8_toNat (c : Bool) (sw a b : Byte) :
    ((sub8 c sw a b).r.toNat : Int) = ((a.toNat : Int) - b.toNat - c.toNat) % 256 := by
  have hr : (sub8 c sw a b).r.toNat = (a.toNat + 512 - b.toNat - c.toNat) % 256 := BitVec.toNat_ofNat ..
  have hb := b.isLt
  have hc := c.toNat_le
  omega

theorem difference_sub8 (c : Bool) (sw a b : Byte) : Difference sw a b c (sub8 c sw a b).r (sub8 c sw a b).sw :=
  ⟨sub8_toNat c sw a b,
    flagsAre_flagsOf sw _ decide_eq_true_iff decide_eq_true_iff (overflowSub_iff (sub8_toNat c sw a b))⟩

theorem bitwise_plainOut {op : Bool → Bool → Bool} (sw : Byte) {a b r : Byte}
    (hr : ∀ n, n < 8 → r.getLsbD n = op (a.getLsbD n) (b.getLsbD n)) :
    Bitwise op sw a b (plainOut sw r).r (plainOut sw r).sw := ⟨hr, plain_plainOut sw r⟩

/-! ## LDI and MOV (R170 to R172) -/

theorem onlyRegisters_writeDirect (s : State) (x : RegIx) (v : Byte) : OnlyRegisters s (s.writeDirect x v) :=
  onlyRegisters_of_frame rfl

/-- The registers after MOV 1: the operand read of the source, then the normal write of the destination. -/
theorem reg_move (s : State) (x y j : RegIx) : ((s.readReg y).st.writeReg x (s.reg y)).reg j =
    if j = x ∧ x ≠ 0 then s.reg y else if y = 0 ∧ j = 0 then 0 else s.reg j :=
  reg_after s _ x _ (y = 0) j (reg_readReg s y)

/-- Settles O48: MOV 0 is MOV 1 with the source cleared by a direct write at the end (`reg_writeDirect`, `reg_move`). -/
theorem loadsAndMovesWriteTheirDestination : Obligations.LoadsAndMovesWriteTheirDestination := by
  intro s x y v
  have hframe : (s.readReg y).st.writeReg x (s.reg y) = { s with regs := ((s.readReg y).st.writeReg x (s.reg y)).regs } := by
    simp only [writeReg_eq, readReg_st]
  refine ⟨⟨s.writeDirect x v, rfl, ?_, fun j hj => ?_, onlyRegisters_writeDirect s x v⟩,
    ⟨((s.readReg y).st.writeReg x (s.reg y)).writeDirect y 0, rfl, ?_, fun hx hxy => ?_, fun j hy hx => ?_,
      onlyRegisters_of_frame (congrArg (State.writeDirect · y 0) hframe)⟩,
    ⟨_, rfl, registersAre_of_reg (reg_move s x y), onlyRegisters_of_frame hframe⟩⟩
  · rw [reg_writeDirect, if_pos rfl]
  · rw [reg_writeDirect, if_neg hj]
  · rw [reg_writeDirect, if_pos rfl]
  · rw [reg_writeDirect, if_neg hxy, reg_move, if_pos ⟨rfl, hx⟩]
  · rw [reg_writeDirect, if_neg hy, reg_move, if_neg fun h => h.2 (hx h.1), if_neg fun h => hy (h.2.trans h.1.symm)]

/-! ## The immediate operations (R174 to R180) -/

section immediate

variable {i : Instr} {s : State} {x : RegIx} {u : Byte → Byte → UnitOut} {good : Byte → Byte → Prop}

theorem completes_immOp (hexec : exec i s = .next (s.immOp x u)) (hgood : good (u s.sw (s.reg x)).r (u s.sw (s.reg x)).sw) :
    Completes i s (x = 0) x good :=
  completes_of_unit hexec (immOp_frame s x u) (immOp_reg s x u) hgood

/-- A test drops its result, as a normal write to register 0 would. -/
theorem completes_immTest (hexec : exec i s = .next (s.immTest x u))
    (hgood : good (u s.sw (s.reg x)).r (u s.sw (s.reg x)).sw) : Completes i s (x = 0) 0 good :=
  completes_of_unit hexec (immTest_frame s x u)
    (fun j => (immTest_reg s x u j).trans (if_neg fun h => h.2 rfl).symm) hgood

end immediate

/-- Settles O49: the six operations are the two immediate forms with the units `add8`, `sub8` and `plainOut`. -/
theorem immediateOperationsSetResultAndFlags : Obligations.ImmediateOperationsSetResultAndFlags := fun s _ _ =>
  ⟨completes_immOp rfl (sum_add8 ..),
    completes_immOp rfl (bitwise_plainOut s.sw fun _ _ => BitVec.getLsbD_and),
    completes_immOp rfl (bitwise_plainOut s.sw fun _ _ => BitVec.getLsbD_or),
    completes_immOp rfl (bitwise_plainOut s.sw fun _ _ => BitVec.getLsbD_xor),
    completes_immTest rfl (difference_sub8 ..),
    completes_immTest rfl (bitwise_plainOut s.sw fun _ _ => BitVec.getLsbD_and)⟩

end Sys2Proof.Proofs

/-! PROOFS. The ALU (spec/45_alu.md R190 to R217): what an effect leaves of the status word, the three-register form as `Completes`, the
nibble lanes as `LaneSum` and `LaneDifference`, the boolean operations bit by bit, and subtraction as the inverse of addition. -/

namespace Sys2Proof.Proofs

open Sys2Proof.Machine Sys2Proof.Laws Sys2Proof.Spec

/-! ## Who writes the status word (spec/10_state.md R17, spec/45_alu.md R190) -/

/-- An effect keeps the status word or sets the error flag alone, unless its instruction is an ALU operation, which keeps the reserved
bit, or writes the whole word. -/
theorem effect_sw {i : Instr} {s t : State} (he : Effect s i t) :
    t.sw = s.sw ∨ t.sw = setErr s.sw ∨ (¬ LeavesFlags i ∧ (swR3 t.sw = swR3 s.sw ∨ WritesStatusWord i s)) := by
  cases he with
  | move | load | domainFault | halt | loopBounds | loopCount | controlWord | setVector | setMask | jump | call | ret
  | unwind | input | output | store => exact .inl rfl
  | compute _ _ hi hw =>
    obtain ⟨-, h3⟩ := hw
    exact .inr (.inr ⟨hi, .inl h3⟩)
  | divZero _ _ _ _ hi _ h3 =>
    have hALU : ¬ LeavesFlags i := by rcases hi with rfl | rfl <;> exact id
    exact .inr (.inr ⟨hALU, .inl h3⟩)
  | refused | noSlot => exact .inr (.inl rfl)
  | statusWord v hk => exact .inr (.inr ⟨id, .inr (.inl ⟨hk, .inl ⟨v, rfl⟩⟩)⟩)
  | popStatus x f _ hf => exact .inr (.inr ⟨id, .inr (.inr ⟨x, f, rfl, hf⟩)⟩)
  | switchPage v => exact .inl (setPage_sw s v)
  | pop _ _ q | peek _ _ q => exact .inl (setPage_sw s q)
  | push _ _ v => exact .inl (memWrite_sw s _ v)
  | poke x => exact .inl (memWrite_sw s _ (s.reg x))
  | internal x k rs hk =>
    rcases setInternal_cases { s with regs := rs } k (s.reg x) with
      ⟨-, h⟩ | ⟨-, h⟩ | ⟨rfl, -⟩ | ⟨-, h⟩ | ⟨-, h⟩ | ⟨-, p, h⟩
    case inr.inr.inl => exact .inr (.inr ⟨fun h => h rfl, .inr (.inl ⟨hk rfl, .inr ⟨x, rfl⟩⟩)⟩)
    all_goals
      rw [h]
      exact .inl rfl

/-- Settles O18, by the three cases of `effect_sw`. -/
theorem onlyAluOperationsWriteTheFlags : Obligations.OnlyAluOperationsWriteTheFlags := by
  intro i s t h
  rcases effect_sw (effect_of_exec h) with hkeep | herr | ⟨halu, h3⟩
  · exact ⟨fun _ => .inl hkeep, fun hne => absurd (congrArg swR3 hkeep) hne⟩
  · obtain ⟨-, -, -, h3, -⟩ := setErr_bits s.sw
    rw [herr]
    exact ⟨fun _ => .inr (errorSet_setErr s.sw), fun hne => absurd h3 hne⟩
  · exact ⟨fun hleaves => absurd hleaves halu, h3.resolve_left⟩

/-! ## The three-register form (R199) -/

theorem completes_aluOp {i : Instr} {s : State} {x y z : RegIx} {u : Byte → Byte → Byte → UnitOut} {good : Byte → Byte → Prop}
    (hexec : exec i s = .next (s.aluOp x y z u))
    (hgood : good (u s.sw (s.reg y) (second s y z)).r (u s.sw (s.reg y) (second s y z)).sw) :
    Completes i s (y = 0 ∨ z = 0) x good :=
  completes_of_unit hexec (aluOp_frame s x y z u) (aluOp_reg s x y z u) hgood

/-- Settles O50: the units are `add8` and `sub8`, whose relations `sum_add8` and `difference_sub8` hold for every carry in. -/
theorem additionAndSubtraction : Obligations.AdditionAndSubtraction := fun _ _ _ _ =>
  ⟨completes_aluOp rfl (sum_add8 ..), completes_aluOp rfl (sum_add8 ..),
    completes_aluOp rfl (difference_sub8 ..), completes_aluOp rfl (difference_sub8 ..)⟩

/-! ## The nibble lanes (R194, R195, R202, R203, R206, R207) -/

theorem lanes_toNat (hi lo : Nat) : (lanes hi lo).toNat = hi % 16 * 16 + lo % 16 := by
  rw [lanes, toNat_append_add, BitVec.toNat_ofNat, BitVec.toNat_ofNat]
  rfl

theorem lowLane_lanes (hi lo : Nat) : lowLane (lanes hi lo) = lo % 16 := by
  rw [lowLane, lanes_toNat]
  omega

theorem highLane_lanes (hi lo : Nat) : highLane (lanes hi lo) = hi % 16 := by
  rw [highLane, lanes_toNat]
  omega

/-- The sign rule of R192 read off the bytes as numbers. -/
theorem overflowAdd_iff_signs (a b r : Byte) :
    overflowAdd a b r = true ↔ (128 ≤ a.toNat ↔ 128 ≤ b.toNat) ∧ ¬(128 ≤ r.toNat ↔ 128 ≤ a.toNat) := by
  simp only [overflowAdd, sign_eq_decide, Bool.and_eq_true, beq_iff_eq, bne_iff_ne, ne_eq, decide_eq_decide]

/-- The sign rule of R193 read off the bytes as numbers. -/
theorem overflowSub_iff_signs (a b r : Byte) :
    overflowSub a b r = true ↔ ¬(128 ≤ a.toNat ↔ 128 ≤ b.toNat) ∧ ¬(128 ≤ r.toNat ↔ 128 ≤ a.toNat) := by
  simp only [overflowSub, sign_eq_decide, Bool.and_eq_true, bne_iff_ne, ne_eq, decide_eq_decide]

theorem laneSum_vadd8 (cl ch : Bool) (sw a b : Byte) : LaneSum sw a b cl ch (vadd8 cl ch sw a b).r (vadd8 cl ch sw a b).sw :=
  ⟨lowLane_lanes .., highLane_lanes ..,
    flagsAre_flagsOf sw _ decide_eq_true_iff decide_eq_true_iff (overflowAdd_iff_signs ..)⟩

/-- The unit adds 32 to a lane before it subtracts, so that no borrow is lost in the natural numbers. -/
theorem lane_sub_eq (a : Nat) {b : Nat} (hb : b < 16) (c : Bool) :
    (((a + 32 - b - c.toNat) % 16 : Nat) : Int) = ((a : Int) - b - c.toNat) % 16 := by
  have hc := c.toNat_le
  omega

theorem laneDifference_vsub8 (bl bh : Bool) (sw a b : Byte) :
    LaneDifference sw a b bl bh (vsub8 bl bh sw a b).r (vsub8 bl bh sw a b).sw := by
  have hlow : b.toNat % 16 < 16 := Nat.mod_lt _ (by decide)
  have hhigh : b.toNat / 16 < 16 := Nat.div_lt_of_lt_mul b.isLt
  exact ⟨(congrArg Nat.cast (lowLane_lanes ..)).trans (lane_sub_eq _ hlow bl),
    (congrArg Nat.cast (highLane_lanes ..)).trans (lane_sub_eq _ hhigh bh),
    flagsAre_flagsOf sw _ decide_eq_true_iff decide_eq_true_iff (overflowSub_iff_signs ..)⟩

/-- Settles O51: each lane of the result is a sum or difference of the operands' lanes alone (`lowLane_lanes`, `highLane_lanes`). -/
theorem nibbleVectorArithmetic : Obligations.NibbleVectorArithmetic := fun _ _ _ _ =>
  ⟨completes_aluOp rfl (laneSum_vadd8 ..), completes_aluOp rfl (laneSum_vadd8 ..),
    completes_aluOp rfl (laneDifference_vsub8 ..), completes_aluOp rfl (laneDifference_vsub8 ..)⟩

/-! ## The boolean operations (R209 to R217) -/

theorem getLsbD_complement (a : Byte) {n : Nat} (hn : n < 8) : (~~~a).getLsbD n = !a.getLsbD n := by
  rw [BitVec.getLsbD_not, decide_eq_true hn, Bool.true_and]

/-- Settles O52: bit by bit, the complements by `getLsbD_complement`, the flags by `bitwise_plainOut`; XOR is by definition the
complement of `==`. -/
theorem booleanOperationsAreBitwise : Obligations.BooleanOperationsAreBitwise := fun s x y z =>
  ⟨completes_aluOp rfl (bitwise_plainOut s.sw fun _ _ => BitVec.getLsbD_or),
    completes_aluOp rfl (bitwise_plainOut s.sw fun _ _ => BitVec.getLsbD_and),
    completes_aluOp rfl (bitwise_plainOut s.sw fun _ _ => BitVec.getLsbD_xor),
    completes_aluOp rfl (bitwise_plainOut s.sw fun _ hn => by rw [BitVec.getLsbD_or, getLsbD_complement _ hn]),
    completes_aluOp rfl (bitwise_plainOut s.sw fun _ hn => by rw [getLsbD_complement _ hn, BitVec.getLsbD_or]),
    completes_aluOp rfl (bitwise_plainOut s.sw fun _ hn => by rw [getLsbD_complement _ hn, BitVec.getLsbD_and]),
    completes_aluOp rfl (bitwise_plainOut s.sw fun _ hn => by
      rw [getLsbD_complement _ hn, BitVec.getLsbD_xor]
      exact Bool.not_not _),
    completes_aluOp rfl (bitwise_plainOut s.sw fun _ hn => by rw [BitVec.getLsbD_and, getLsbD_complement _ hn])⟩

/-! ## Subtraction undoes addition (R193) -/

theorem sub8_C (c : Bool) (sw a b : Byte) : swC (sub8 c sw a b).sw = decide (a.toNat < b.toNat + c.toNat) := flagsOf_C ..

theorem sub8_A (c : Bool) (sw a b : Byte) : swA (sub8 c sw a b).sw = decide (lowLane a < lowLane b + c.toNat) := flagsOf_A ..

theorem add8_C (c : Bool) (sw a b : Byte) : swC (add8 c sw a b).sw = decide (255 < a.toNat + b.toNat + c.toNat) := flagsOf_C ..

theorem add8_A (c : Bool) (sw a b : Byte) : swA (add8 c sw a b).sw = decide (15 < lowLane a + lowLane b + c.toNat) :=
  flagsOf_A ..

/-- Settles O53: a byte sum wraps exactly when it is below the byte added, and so does its low lane, so the borrows of the subtraction
are the carries of the addition. -/
theorem subtractionUndoesAddition : Obligations.SubtractionUndoesAddition := by
  intro sw a b
  have ha := a.isLt
  have hb := b.isLt
  obtain ⟨hsum, -⟩ := sum_add8 false sw a b
  rw [Bool.toNat_false] at hsum
  generalize hr : (add8 false sw a b).r = r at hsum
  refine ⟨?_, ?_, ?_⟩
  · have hdiff := sub8_toNat false (add8 false sw a b).sw r b
    rw [Bool.toNat_false] at hdiff
    rw [BitVec.toNat_eq]
    omega
  · rw [sub8_C, add8_C, Bool.toNat_false, decide_eq_decide]
    omega
  · rw [sub8_A, add8_A, Bool.toNat_false, decide_eq_decide]
    unfold lowLane
    omega

end Sys2Proof.Proofs

/-! PROOFS. Shifts, multiply and divide, square root and bit counting (spec/46_shift_math.md R230 to R263): the register form within
range and beyond it, the four shift functions as the relations of `Shifted`, and the math unit as quotients, roots and positions of
bits. -/

namespace Sys2Proof.Proofs

open Sys2Proof.Machine Sys2Proof.Laws Sys2Proof.Spec

/-! ## The two forms (R244, R245 to R247) -/

section forms

variable {i : Instr} {s : State} {x y z : RegIx} {good : Byte → Byte → Prop}

theorem completes_unaryOp {u : Byte → Byte → UnitOut} (hexec : exec i s = .next (s.unaryOp x y u))
    (hgood : good (u s.sw (s.reg y)).r (u s.sw (s.reg y)).sw) : Completes i s (y = 0) x good :=
  completes_of_unit hexec (unaryOp_frame s x y u) (unaryOp_reg s x y u) hgood

/-- Within range the register form is a three-register ALU operation. -/
theorem shiftByReg_of_le (hn : (second s y z).toNat ≤ 7) (u : Byte → Byte → Nat → UnitOut) :
    s.shiftByReg x y z u = s.aluOp x y z fun sw a n => u sw a n.toNat := by
  obtain ⟨hlt, -⟩ | ⟨-, h⟩ := shiftByReg_cases s x y z u
  · exact absurd hlt (Nat.not_lt.2 hn)
  · exact h

theorem shiftByReg_of_lt (hn : 7 < (second s y z).toNat) (u : Byte → Byte → Nat → UnitOut) :
    s.shiftByReg x y z u = ((s.readReg y).st.readReg z).st.raiseDomainFault := by
  obtain ⟨-, h⟩ | ⟨hle, -⟩ := shiftByReg_cases s x y z u
  · exact h
  · exact absurd hn (Nat.not_lt.2 hle)

theorem completes_shiftByReg {u : Byte → Byte → Nat → UnitOut} (hn : (second s y z).toNat ≤ 7)
    (hexec : exec i s = .next (s.shiftByReg x y z u))
    (hgood : good (u s.sw (s.reg y) (second s y z).toNat).r (u s.sw (s.reg y) (second s y z).toNat).sw) :
    Completes i s (y = 0 ∨ z = 0) x good :=
  completes_aluOp (hexec.trans (congrArg Host.Outcome.next (shiftByReg_of_le hn u))) hgood

end forms

/-! ## The shift functions (R230 to R235) -/

/-- The shape `shiftOut` is the shape `Shifted`, once result and carry are right for amounts other than 0. -/
theorem shifted_shiftOut (sw a : Byte) {n : Nat} {r : Byte} {c : Bool} {result : Byte → Prop} {carry : Prop}
    (hr : result r) (hc : c = true ↔ carry) :
    Shifted sw a n result carry (shiftOut sw a n r c).r (shiftOut sw a n r c).sw := by
  unfold shiftOut
  split
  next h0 => exact ⟨fun _ => ⟨rfl, rfl⟩, fun hn => absurd h0 hn⟩
  next hn =>
    exact ⟨fun h0 => absurd h0 hn,
      fun _ => ⟨hr, flagsAre_flagsOf sw r hc Bool.false_eq_true.to_iff Bool.false_eq_true.to_iff⟩⟩

theorem shiftedLeft_lsl8 (sw a : Byte) (n : Nat) : ShiftedLeft sw a n (lsl8 sw a n).r (lsl8 sw a n).sw :=
  shifted_shiftOut sw a (BitVec.toNat_ofNat ..) Iff.rfl

theorem shiftedRight_lsr8 (sw a : Byte) (n : Nat) : ShiftedRight sw a n (lsr8 sw a n).r (lsr8 sw a n).sw :=
  shifted_shiftOut sw a (Nat.mod_eq_of_lt ((Nat.div_le_self ..).trans_lt a.isLt)) Iff.rfl

/-- The two halves of a 9-bit rotate share no bit, so putting them together adds them. -/
theorem rotate_or_eq_add {t n : Nat} (hn : n ≤ 9) (ht : t < 2 ^ 9) :
    (t * 2 ^ n % 2 ^ 9 ||| t / 2 ^ (9 - n)) % 2 ^ 9 = t * 2 ^ n % 2 ^ 9 + t / 2 ^ (9 - n) := by
  have hpow : 2 ^ n * 2 ^ (9 - n) = 2 ^ 9 := by rw [← pow_add, Nat.add_sub_of_le hn]
  have hlow : t / 2 ^ (9 - n) < 2 ^ n := Nat.div_lt_of_lt_mul (by rwa [mul_comm, hpow])
  have hhigh : t * 2 ^ n % 2 ^ 9 = 2 ^ n * (t % 2 ^ (9 - n)) := by rw [← hpow, mul_comm t, Nat.mul_mod_mul_left]
  have hbound : t * 2 ^ n % 2 ^ 9 ||| t / 2 ^ (9 - n) < 2 ^ 9 :=
    Nat.or_lt_two_pow (Nat.mod_lt _ (by decide)) ((Nat.div_le_self ..).trans_lt ht)
  rw [Nat.mod_eq_of_lt hbound, hhigh, Nat.two_pow_add_eq_or_of_lt hlow]

theorem rotate9_toNat (sw a : Byte) {n : Nat} (hn : n ≤ 9) : (rotate9 (swC sw) a n).toNat = nineBits sw a n := by
  have ht : (swC sw).toNat * 256 + a.toNat < 2 ^ 9 := by
    have hc := (swC sw).toNat_le
    have ha := a.isLt
    omega
  exact rotate_or_eq_add hn ht

theorem rotated_rol8 (sw a : Byte) {n : Nat} (hn : n ≤ 7) : Rotated sw a n (rol8 sw a n).r (rol8 sw a n).sw := by
  have hnine := rotate9_toNat sw a (hn.trans (by decide : 7 ≤ 9))
  refine shifted_shiftOut sw a ?_ ?_
  · rw [BitVec.toNat_setWidth, hnine]
  · have hmsb : (rotate9 (swC sw) a n).msb = (rotate9 (swC sw) a n).getLsbD 8 := BitVec.msb_eq_getLsbD_last _
    rw [← hmsb, BitVec.msb_eq_decide, decide_eq_true_iff, hnine]

/-- A signed byte divided by a power of 2 is a signed byte. -/
theorem toInt_ofInt_ediv (a : Byte) (n : Nat) : (BitVec.ofInt 8 (a.toInt / 2 ^ n)).toInt = a.toInt / 2 ^ n := by
  have hpos : (0 : Int) < 2 ^ n := by positivity
  have hlow : (-2 ^ 7 : Int) ≤ a.toInt := a.le_toInt
  have hhigh : a.toInt < 2 ^ 7 := a.toInt_lt
  refine BitVec.toInt_ofInt_eq_self (by decide) ?_ ?_
  · exact (Int.le_ediv_iff_mul_le hpos).2 (by omega)
  · exact Int.ediv_lt_of_lt_mul hpos (by omega)

theorem shiftedArithmetic_asr8 (sw a : Byte) (n : Nat) : ShiftedArithmetic sw a n (asr8 sw a n).r (asr8 sw a n).sw :=
  shifted_shiftOut sw a (toInt_ofInt_ediv a n) Iff.rfl

/-- Settles O54: both forms with the four shift functions; an immediate of three bits is within range. -/
theorem shiftsByRegisterOrImmediate : Obligations.ShiftsByRegisterOrImmediate :=
  ⟨fun _ _ _ _ hn =>
    ⟨completes_shiftByReg hn rfl (shiftedLeft_lsl8 ..), completes_shiftByReg hn rfl (shiftedRight_lsr8 ..),
      completes_shiftByReg hn rfl (rotated_rol8 _ _ hn), completes_shiftByReg hn rfl (shiftedArithmetic_asr8 ..)⟩,
    fun _ _ _ n =>
    ⟨completes_unaryOp rfl (shiftedLeft_lsl8 ..), completes_unaryOp rfl (shiftedRight_lsr8 ..),
      completes_unaryOp rfl (rotated_rol8 _ _ (Nat.le_of_lt_succ n.isLt)), completes_unaryOp rfl (shiftedArithmetic_asr8 ..)⟩⟩

/-! ## Shifts by 0 and the logical shifts (R231 to R233) -/

/-- An instruction that completes as a shift by 0 copies its operand and leaves the status word alone. -/
theorem copies_of_shifted_zero {i : Instr} {s : State} {clears : Prop} {x y : RegIx} {n : Nat} {result : Byte → Prop}
    {carry : Prop} (h : Completes i s clears x (Shifted s.sw (s.reg y) n result carry)) (h0 : n = 0) :
    ∃ t, exec i s = .next t ∧ (x ≠ 0 → t.reg x = s.reg y) ∧ t.sw = s.sw := by
  obtain ⟨t, v, hexec, ⟨hzero, -⟩, hregs, -⟩ := h
  obtain ⟨rfl, hsw⟩ := hzero h0
  exact ⟨t, hexec, hregs.written, hsw⟩

/-- Settles O55: the copies are the amount 0 of O54, results and carries the two relations of the logical shifts. -/
theorem shiftUnitOnZeroAndLogicalShifts : Obligations.ShiftUnitOnZeroAndLogicalShifts := by
  obtain ⟨hbyReg, hbyImm⟩ := shiftsByRegisterOrImmediate
  refine ⟨fun _ _ => ⟨rfl, rfl, rfl, rfl⟩, ?_, ?_, by decide, by decide, by decide, by decide⟩
  · rintro i s x y z (⟨hn, hi⟩ | ⟨-, hi⟩)
    · have h0 : (second s y z).toNat = 0 := congrArg BitVec.toNat hn
      obtain ⟨hlsl, hlsr, hrol, hasr⟩ := hbyReg s x y z (h0.trans_le (Nat.zero_le 7))
      obtain rfl | rfl | rfl | rfl := hi
      · exact copies_of_shifted_zero hlsl h0
      · exact copies_of_shifted_zero hlsr h0
      · exact copies_of_shifted_zero hrol h0
      · exact copies_of_shifted_zero hasr h0
    · obtain ⟨hlsl, hlsr, hrol, hasr⟩ := hbyImm s x y 0
      obtain rfl | rfl | rfl | rfl := hi
      · exact copies_of_shifted_zero hlsl rfl
      · exact copies_of_shifted_zero hlsr rfl
      · exact copies_of_shifted_zero hrol rfl
      · exact copies_of_shifted_zero hasr rfl
  · intro sw a n h1 _
    have hn : n ≠ 0 := Nat.one_le_iff_ne_zero.1 h1
    obtain ⟨-, hleft⟩ := shiftedLeft_lsl8 sw a n
    obtain ⟨-, hright⟩ := shiftedRight_lsr8 sw a n
    obtain ⟨hl, hlflags⟩ := hleft hn
    obtain ⟨hr, hrflags⟩ := hright hn
    exact ⟨hl, Bool.eq_iff_iff.2 hlflags.carry, hr, Bool.eq_iff_iff.2 hrflags.carry⟩

/-! ## Amounts above 7 (R244) -/

theorem registersAre_readReg_readReg (s : State) (y z : RegIx) :
    RegistersAre s ((s.readReg y).st.readReg z).st (y = 0 ∨ z = 0) 0 0 := by
  refine registersAre_of_reg fun j => ?_
  rw [if_neg fun h => h.2 rfl, reg_readReg, reg_readReg, ← ite_or]
  exact if_congr (or_comm.trans or_and_right.symm) rfl rfl

/-- A FAULTED machine to which nothing is delivered faults (spec/60_exceptions.md R284). -/
theorem step_of_faulted {s : State} (hin : s.inputs = []) (hrun : s.run = .faulted) : step s = .fault .domainFault := by
  unfold step
  rw [takeInputs_nil s hin, hrun]

/-- Settles O56: the two operand reads are kept, then the fault. -/
theorem shiftByMoreThanSevenIsADomainFault : Obligations.ShiftByMoreThanSevenIsADomainFault := by
  intro i s x y z hi hn
  have hexec : exec i s = .next ((s.readReg y).st.readReg z).st.raiseDomainFault := by
    obtain rfl | rfl | rfl | rfl := hi <;> exact congrArg Host.Outcome.next (shiftByReg_of_lt hn _)
  have hreads := readReg_readReg_eq s y z
  have hframe : ((s.readReg y).st.readReg z).st.raiseDomainFault =
      { s with regs := ((s.readReg y).st.readReg z).st.regs, run := .faulted } := congrArg State.raiseDomainFault hreads
  refine ⟨_, hexec, hframe, registersAre_congr (registersAre_readReg_readReg s y z) rfl rfl, fun a => ?_, fun hin => ?_⟩
  · rw [hframe]
    rfl
  · exact step_of_faulted ((congrArg State.inputs hframe).trans hin) rfl

/-! ## Multiply and divide (R246, R250 to R255) -/

/-- The immediate of R246 as the second operand of the math unit. -/
theorem imm3_toNat (n : BitVec 3) : (n.setWidth 8 : Byte).toNat = n.toNat := BitVec.toNat_setWidth_of_le (by decide)

theorem mulLo_toNat (a b : Byte) : (mulLo a b).toNat = a.toNat * b.toNat % 256 := BitVec.toNat_ofNat ..

theorem mulHi_toNat (a b : Byte) : (mulHi a b).toNat = a.toNat * b.toNat / 256 := by
  have hproduct : a.toNat * b.toNat < 256 * 256 := Nat.mul_lt_mul'' a.isLt b.isLt
  exact Nat.mod_eq_of_lt (Nat.div_lt_of_lt_mul hproduct)

theorem divByte_toNat (a b : Byte) : (divByte a b).toNat = a.toNat / b.toNat :=
  Nat.mod_eq_of_lt ((Nat.div_le_self ..).trans_lt a.isLt)

theorem modByte_toNat (a b : Byte) : (modByte a b).toNat = a.toNat % b.toNat := by
  rw [modByte, ← Nat.mod_eq_sub_mul_div, BitVec.toNat_ofNat]
  exact Nat.mod_eq_of_lt ((Nat.mod_le ..).trans_lt a.isLt)

theorem exec_divi_nonzero {n : BitVec 3} (hn : n ≠ 0) (s : State) (x y : RegIx) : exec (.divi x y n) s =
    .next (s.unaryOp x y fun sw a => plainOut sw (divByte a (n.setWidth 8))) :=
  congrArg Host.Outcome.next (if_neg hn)

theorem exec_modi_nonzero {n : BitVec 3} (hn : n ≠ 0) (s : State) (x y : RegIx) : exec (.modi x y n) s =
    .next (s.unaryOp x y fun sw a => plainOut sw (modByte a (n.setWidth 8))) :=
  congrArg Host.Outcome.next (if_neg hn)

/-- Settles O57: the math unit's functions on a three-bit second operand (`imm3_toNat`), with `plainOut` for the flags. -/
theorem multiplyAndDivideByImmediate : Obligations.MultiplyAndDivideByImmediate := by
  intro s x y n
  refine ⟨completes_unaryOp rfl ⟨?_, plain_plainOut ..⟩, completes_unaryOp rfl ⟨?_, plain_plainOut ..⟩, fun hn =>
    ⟨completes_unaryOp (exec_divi_nonzero hn s x y) ⟨?_, plain_plainOut ..⟩,
      completes_unaryOp (exec_modi_nonzero hn s x y) ⟨?_, plain_plainOut ..⟩⟩⟩
  · exact (mulLo_toNat ..).trans (by rw [imm3_toNat])
  · exact (mulHi_toNat ..).trans (by rw [imm3_toNat])
  · exact (divByte_toNat ..).trans (by rw [imm3_toNat])
  · exact (modByte_toNat ..).trans (by rw [imm3_toNat])

/-- Settles O58: both divisions by 0 are `divByZero`, of which the drawn byte is the value written. -/
theorem divisionByZeroSetsTheErrorFlag : Obligations.DivisionByZeroSetsTheErrorFlag := by
  intro i s x y hi
  have hexec : exec i s = .next (s.divByZero x y) := by obtain rfl | rfl := hi <;> rfl
  obtain ⟨hE, h3⟩ := divByZero_sw s x y
  refine ⟨_, _, hexec, divByZero_frame s x y, registersAre_of_reg (divByZero_reg s x y), hE, h3, fun a => ?_⟩
  rw [divByZero_frame]
  rfl

/-! ## Square root (R256) -/

/-- The candidates whose square is not above `a` are the numbers up to the root. -/
theorem filter_squares_range {a n : Nat} (h : a < n * n) :
    ((List.range n).filter fun r => decide (r * r ≤ a)) = List.range (a.sqrt + 1) := by
  have hroot : ∀ r ∈ List.range n, decide (r * r ≤ a) = decide (r < a.sqrt + 1) := fun r _ =>
    decide_eq_decide.2 (Nat.le_sqrt.symm.trans Nat.lt_succ_iff.symm)
  rw [List.filter_congr hroot, ← List.Ico.zero_bot n, List.Ico.filter_lt, min_eq_right (Nat.sqrt_lt.2 h), List.Ico.zero_bot]

theorem isqrt_toNat (a : Byte) : (isqrt a).toNat = a.toNat.sqrt := by
  have ha : a.toNat < 16 * 16 := a.isLt
  rw [isqrt, filter_squares_range ha, List.range_succ, List.getLastD_concat, BitVec.toNat_ofNat]
  exact Nat.mod_eq_of_lt ((Nat.sqrt_le_self _).trans_lt a.isLt)

/-! ## Leading and trailing zeros (R257, R258) -/

/-- `k` is the first of the positions 0 to 7 at which `b` is true, or 8. -/
structure FirstSet (b : Nat → Bool) (k : Nat) : Prop where
  le     : k ≤ 8
  before : ∀ i, i < k → b i = false
  found  : k < 8 → b k = true

/-- The model counts the positions before the first 1 bit. -/
theorem firstSet_takeWhile (b : Nat → Bool) :
    FirstSet b (BitVec.ofNat 8 ((List.range 8).takeWhile fun i => !b i).length).toNat := by
  have hle : (List.range 8).findIdx b ≤ 8 := List.findIdx_le_length
  have hlen : ((List.range 8).takeWhile fun i => !b i).length = (List.range 8).findIdx b := by
    rw [List.takeWhile_eq_take_findIdx_not, List.length_take, min_eq_left List.findIdx_le_length]
    simp only [Bool.not_not]
  rw [hlen, BitVec.toNat_ofNat, Nat.mod_eq_of_lt (hle.trans_lt (by decide))]
  refine ⟨hle, fun i hi => ?_, fun hk => ?_⟩
  · have hbit := List.not_of_lt_findIdx hi
    rwa [List.getElem_range] at hbit
  · have hbit := List.findIdx_getElem (w := show (List.range 8).findIdx b < (List.range 8).length from hk)
    rwa [List.getElem_range] at hbit

theorem firstSet_clz8 (a : Byte) : FirstSet (fun i => a.getLsbD (7 - i)) (clz8 a).toNat := firstSet_takeWhile _

theorem firstSet_ctz8 (a : Byte) : FirstSet a.getLsbD (ctz8 a).toNat := firstSet_takeWhile _

theorem lt_two_pow_clz8 (a : Byte) : a.toNat < 2 ^ (8 - (clz8 a).toNat) := by
  refine Nat.lt_pow_two_of_testBit _ fun i hi => ?_
  by_cases h8 : i < 8
  · have hbit := (firstSet_clz8 a).before (7 - i) (by omega)
    rwa [Nat.sub_sub_self (Nat.le_of_lt_succ h8)] at hbit
  · exact BitVec.getLsbD_of_ge a i (Nat.le_of_not_lt h8)

theorem two_pow_clz8_le (a : Byte) (h : (clz8 a).toNat < 8) : 2 ^ (7 - (clz8 a).toNat) ≤ a.toNat :=
  Nat.ge_two_pow_of_testBit ((firstSet_clz8 a).found h)

/-- A number is a multiple of `2 ^ k` exactly when its lowest `k` bits are 0. -/
theorem two_pow_dvd_iff_testBit (n k : Nat) : 2 ^ k ∣ n ↔ ∀ i, i < k → n.testBit i = false := by
  have hlow (i : Nat) : (n % 2 ^ k).testBit i = (decide (i < k) && n.testBit i) := Nat.testBit_mod_two_pow ..
  rw [Nat.dvd_iff_mod_eq_zero]
  refine ⟨fun h i hi => ?_, fun h => Nat.eq_of_testBit_eq fun i => ?_⟩
  · have hbit := hlow i
    rw [h, Nat.zero_testBit, decide_eq_true hi, Bool.true_and] at hbit
    exact hbit.symm
  · rw [hlow, Nat.zero_testBit, Bool.and_eq_false_imp]
    exact fun hi => h i (of_decide_eq_true hi)

theorem two_pow_ctz8_dvd (a : Byte) : 2 ^ (ctz8 a).toNat ∣ a.toNat :=
  (two_pow_dvd_iff_testBit ..).2 (firstSet_ctz8 a).before

theorem not_two_pow_succ_ctz8_dvd (a : Byte) (h : (ctz8 a).toNat < 8) : ¬ 2 ^ ((ctz8 a).toNat + 1) ∣ a.toNat := fun hdvd =>
  have hbit := (two_pow_dvd_iff_testBit ..).1 hdvd (ctz8 a).toNat (Nat.lt_succ_self _)
  Bool.false_ne_true (hbit.symm.trans ((firstSet_ctz8 a).found h))

/-- Eight leading zeros are the count of a zero operand and of no other (R257). -/
theorem clz8_eq_eight_iff (a : Byte) : (clz8 a).toNat = 8 ↔ a.toNat = 0 := by
  have hle := (firstSet_clz8 a).le
  refine ⟨fun h8 => ?_, fun h0 => le_antisymm hle (Nat.le_of_not_lt fun hlt => ?_)⟩
  · have hlt := lt_two_pow_clz8 a
    rw [h8] at hlt
    exact Nat.lt_one_iff.1 hlt
  · have hpow := two_pow_clz8_le a hlt
    rw [h0] at hpow
    exact absurd hpow (Nat.not_le.2 (Nat.two_pow_pos _))

/-- Eight trailing zeros are the count of a zero operand and of no other (R258). -/
theorem ctz8_eq_eight_iff (a : Byte) : (ctz8 a).toNat = 8 ↔ a.toNat = 0 := by
  have hle := (firstSet_ctz8 a).le
  refine ⟨fun h8 => ?_, fun h0 => le_antisymm hle (Nat.le_of_not_lt fun hlt => ?_)⟩
  · have hdvd := two_pow_ctz8_dvd a
    rw [h8] at hdvd
    exact Nat.eq_zero_of_dvd_of_lt hdvd a.isLt
  · have hndvd := not_two_pow_succ_ctz8_dvd a hlt
    rw [h0] at hndvd
    exact hndvd (Nat.dvd_zero _)

/-! ## The bit count (R259) and the four instructions (R260 to R263) -/

theorem popc8_toNat (a : Byte) : (popc8 a).toNat = ((Finset.range 8).filter fun i => a.toNat.testBit i = true).card := by
  have hle : popCount a ≤ 8 := List.length_filter_le ..
  rw [← popCount_eq_card, popc8, BitVec.toNat_ofNat]
  exact Nat.mod_eq_of_lt (hle.trans_lt (by decide))

/-- Settles O59: each instruction is the form with one source register, with the math unit's function. -/
theorem rootAndBitCounts : Obligations.RootAndBitCounts := by
  intro s x y
  refine ⟨completes_unaryOp rfl ⟨?_, ?_, plain_plainOut ..⟩,
    completes_unaryOp rfl ⟨(clz8_eq_eight_iff _).2, fun h0 => ?_, plain_plainOut ..⟩,
    completes_unaryOp rfl ⟨(ctz8_eq_eight_iff _).2, fun h0 => ?_, plain_plainOut ..⟩,
    completes_unaryOp rfl ⟨popc8_toNat _, plain_plainOut ..⟩⟩
  · exact (isqrt_toNat (s.reg y)).symm ▸ Nat.sqrt_le' _
  · exact (isqrt_toNat (s.reg y)).symm ▸ Nat.lt_succ_sqrt' _
  · have hlt : (clz8 (s.reg y)).toNat < 8 := lt_of_le_of_ne (firstSet_clz8 _).le (mt (clz8_eq_eight_iff _).1 h0)
    exact ⟨Nat.le_of_lt_succ hlt, two_pow_clz8_le _ hlt, lt_two_pow_clz8 _⟩
  · have hlt : (ctz8 (s.reg y)).toNat < 8 := lt_of_le_of_ne (firstSet_ctz8 _).le (mt (ctz8_eq_eight_iff _).1 h0)
    exact ⟨two_pow_ctz8_dvd _, not_two_pow_succ_ctz8_dvd _ hlt⟩

end Sys2Proof.Proofs

/-! PROOFS. Failures, privilege and the interrupt check (spec/60_exceptions.md R270, R277 to R282): what a gated operation does in user
mode, why an effect sets the error flag, what every step leaves alone in user mode, and when the check enters a handler. -/

namespace Sys2Proof.Proofs

open Sys2Proof.Machine Sys2Proof.Laws Sys2Proof.Spec

/-! ## User mode (R280 to R282) -/

/-- The registers that only kernel mode writes, but for `pc` and the status word, are as they were (R280, R282). -/
structure SameKernelRegisters (s t : State) : Prop where
  control : t.cw = s.cw
  mask    : t.mask = s.mask
  vectors : t.vt = s.vt

theorem SameKernelRegisters.trans {s t u : State} (hst : SameKernelRegisters s t) (htu : SameKernelRegisters t u) :
    SameKernelRegisters s u :=
  ⟨htu.control.trans hst.control, htu.mask.trans hst.mask, htu.vectors.trans hst.vectors⟩

/-- The mode is a bit of the control word (spec/10_state.md R19). -/
theorem SameKernelRegisters.userMode {s t : State} (h : SameKernelRegisters s t) (hs : s.userMode) : t.userMode :=
  (congrArg (BitVec.getLsbD · 0) h.control).trans hs

theorem takeInputs_sameKernelRegisters (s : State) : SameKernelRegisters s s.takeInputs :=
  ⟨takeInputs_cw s, takeInputs_mask s, takeInputs_vt s⟩

/-- Neither the interrupt entry nor the fetch changes the mode or what it protects (R278, R282). -/
theorem readyToExecute_sameKernelRegisters (s : State) : SameKernelRegisters s s.readyToExecute := by
  constructor <;> simp [State.readyToExecute]

/-- An instruction executed in user mode writes none of them: each has kernel-mode writers only. -/
theorem exec_sameKernelRegisters {i : Instr} {s t : State} (hs : s.userMode) (h : exec i s = .next t) :
    SameKernelRegisters s t := by
  obtain ⟨hcw, hmask, hvt, -⟩ := controlRegistersHaveTheseWritersOnly i s t h
  have huser {p : Prop} : ¬ (s.kernel = true ∧ p) := fun hk => Bool.eq_false_iff.1 hs hk.1
  exact ⟨not_not.1 (mt hcw huser), not_not.1 (mt hmask huser), not_not.1 (mt hvt huser)⟩

/-- Settles O11: the inputs, the interrupt entry, the fetch and, in user mode, every instruction keep these registers, and the control
word holds the mode. -/
theorem userModeIsNeverLeft : Obligations.UserModeIsNeverLeft := by
  intro s t hs h
  have hin := takeInputs_sameKernelRegisters s
  have hst : SameKernelRegisters s t := by
    rcases step_cases h with ⟨-, he⟩ | ⟨-, rfl⟩
    · have hready := hin.trans (readyToExecute_sameKernelRegisters _)
      exact hready.trans (exec_sameKernelRegisters (hready.userMode hs) he)
    · exact hin
  exact ⟨hst.userMode hs, hst.control, hst.mask, hst.vectors⟩

/-- A gated operation in user mode is `seterr`, whatever it would do in kernel mode (R281). -/
theorem exec_gated_user {i : Instr} {s : State} (hi : Gated i) (hk : s.kernel = false) : exec i s = .next s.seterr := by
  have hrefused (body : State → State) : (.next (s.privileged body) : Result) = .next s.seterr :=
    congrArg Host.Outcome.next (privileged_user s body hk)
  rcases hi with ⟨v, rfl | rfl | rfl | rfl⟩ | ⟨x, k, rfl, hg⟩
  case inr =>
    have hgated : internalGated k = true := by rcases hg with rfl | rfl | rfl | rfl | rfl <;> rfl
    exact exec_sts_user s x k hgated hk
  all_goals exact hrefused _

/-- Settles O29. -/
theorem gatedOperationsAreRefusedInUserMode : Obligations.GatedOperationsAreRefusedInUserMode := fun _ s hi hk =>
  ⟨s.seterr, exec_gated_user hi hk, rfl, errorSet_setErr s.sw, fun _ => rfl⟩

/-! ## The causes of the error flag (R270) -/

theorem setInternal_sw_kept (s : State) {k : BitVec 3} (hk : k ≠ 2) (v : Byte) : (s.setInternal k v).sw = s.sw := by
  rcases setInternal_cases s k v with ⟨-, h⟩ | ⟨-, h⟩ | ⟨h2, -⟩ | ⟨-, h⟩ | ⟨-, h⟩ | ⟨-, p, h⟩
  case inr.inr.inl => exact absurd h2 hk
  all_goals rw [h]

/-- An effect keeps the error flag, or its instruction is refused, finds no slot, divides by 0 or writes the whole status word. -/
theorem effect_error_cause {i : Instr} {s t : State} (he : Effect s i t) :
    swE t.sw = swE s.sw ∨ (Gated i ∧ s.kernel = false) ∨ OutOfBounds i s ∨ (∃ x y, i = .divi x y 0 ∨ i = .modi x y 0) ∨
      WritesStatusWord i s := by
  cases he with
  | refused hi hk => exact .inr (.inl ⟨hi, hk⟩)
  | noSlot _ hi => exact .inr (.inr (.inl hi))
  | divZero x y _ _ hi => exact .inr (.inr (.inr (.inl ⟨x, y, hi⟩)))
  | statusWord v hk => exact .inr (.inr (.inr (.inr (.inl ⟨hk, .inl ⟨v, rfl⟩⟩))))
  | popStatus x f _ hf => exact .inr (.inr (.inr (.inr (.inr ⟨x, f, rfl, hf⟩))))
  | internal x k rs hk =>
    by_cases h2 : k = 2
    · subst h2
      exact .inr (.inr (.inr (.inr (.inl ⟨hk rfl, .inr ⟨x, rfl⟩⟩))))
    · exact .inl (congrArg swE (setInternal_sw_kept { s with regs := rs } h2 (s.reg x)))
  | compute _ _ _ hw =>
    obtain ⟨hE, -⟩ := hw
    exact .inl hE
  | switchPage q | pop _ _ q | peek _ _ q => exact .inl (congrArg swE (setPage_sw s q))
  | push _ _ v => exact .inl (congrArg swE (memWrite_sw s _ v))
  | poke x => exact .inl (congrArg swE (memWrite_sw s _ (s.reg x)))
  | move | load | domainFault | halt | loopBounds | loopCount | controlWord | setVector | setMask | jump | call | ret
  | unwind | input | output | store => exact .inl rfl

/-- A stack operation whose bounds check fails aborts. -/
theorem aborts_of_outOfBounds {i : Instr} {s : State} (h : OutOfBounds i s) : ∃ clears, Aborts i s clears := by
  rcases h with ⟨x, f, hi, hf⟩ | ⟨x, f, hi, hf⟩
  · obtain ⟨h0, h1, h2, h3, hpoke⟩ := (stackBoundsSetTheErrorFlag s x f).1 hf
    rcases hi with rfl | rfl | rfl | rfl | rfl
    exacts [⟨_, h0⟩, ⟨_, h1⟩, ⟨_, h2⟩, ⟨_, h3⟩, ⟨_, hpoke⟩]
  · obtain ⟨h0, h2, h3⟩ := (stackBoundsSetTheErrorFlag s x f).2 hf
    rcases hi with rfl | rfl | rfl
    exacts [⟨_, h0⟩, ⟨_, h2⟩, ⟨_, h3⟩]

/-- Each of the three causes sets the flag: a refusal, an abort of a stack operation, a division by 0. -/
theorem exec_sets_error {i : Instr} {s : State}
    (h : (Gated i ∧ s.kernel = false) ∨ OutOfBounds i s ∨ ∃ x y, i = .divi x y 0 ∨ i = .modi x y 0) :
    ∃ t, exec i s = .next t ∧ swE t.sw = true := by
  rcases h with ⟨hi, hk⟩ | hout | ⟨x, y, hi⟩
  · exact ⟨_, exec_gated_user hi hk, setErr_E s.sw⟩
  · obtain ⟨_, t, hexec, -, ⟨hE, -⟩, -⟩ := aborts_of_outOfBounds hout
    exact ⟨t, hexec, hE⟩
  · obtain ⟨t, -, hexec, -, -, hE, -⟩ := divisionByZeroSetsTheErrorFlag i s x y hi
    exact ⟨t, hexec, hE⟩

/-- Settles O19. -/
theorem errorFlagIsSetForTheseCausesOnly : Obligations.ErrorFlagIsSetForTheseCausesOnly := by
  intro i s t h
  refine ⟨fun hclear hset => ?_, fun hcause => ?_⟩
  · have hchanged : swE t.sw ≠ swE s.sw := by
      rw [hclear, hset]
      decide
    exact (effect_error_cause (effect_of_exec h)).resolve_left hchanged
  · obtain ⟨u, hu, hE⟩ := exec_sets_error hcause
    cases h.symm.trans hu
    exact hE

/-! ## The interrupt check (R277, R278) -/

theorem outranksActive_iff (s : State) (q : Irq) :
    s.outranksActive q = true ↔ ∀ top rest, s.act = top :: rest → top.priority.toNat < q.priority.toNat := by
  unfold State.outranksActive
  cases s.act with
  | nil => simp
  | cons top rest => simp

theorem serves_iff (s : State) (q : Irq) : Serves s q ↔ s.irqEnable = true ∧ s.outranksActive q = true :=
  and_congr_right' (outranksActive_iff s q).symm

theorem handler_toNat (s : State) (v : Byte) : (s.handler v).toNat = (Memory.read s.vt (v.toNat % 16)).toNat :=
  BitVec.toNat_setWidth_of_le (by decide)

/-- The model's entry is the one R278 describes. -/
theorem entered_enterInterrupt (s : State) (q : Irq) (rest : List Irq) : Entered s (s.enterInterrupt q rest) q rest where
  frame := rfl
  pushed := read_write_same ..
  kept _ hk := read_write_other _ _ _ _ hk
  handler := handler_toNat s q.vector
  memory _ := rfl

theorem checkInterrupt_nil {s : State} (h : s.pend = []) : s.checkInterrupt = s := by
  simp [State.checkInterrupt, h]

/-- With a request on top of the pending stack, the check enters its handler or changes nothing. -/
theorem checkInterrupt_cons {s : State} {q : Irq} {rest : List Irq} (h : s.pend = q :: rest) :
    (Serves s q ∧ s.checkInterrupt = s.enterInterrupt q rest) ∨ (¬ Serves s q ∧ s.checkInterrupt = s) := by
  rw [serves_iff]
  rcases checkInterrupt_cases s with ⟨q', rest', hp, he, ho, hc⟩ | ⟨hc, hno⟩
  · cases h.symm.trans hp
    exact .inl ⟨⟨he, ho⟩, hc⟩
  · refine .inr ⟨fun ⟨he, ho⟩ => ?_, hc⟩
    simpa [he, ho] using hno q rest h

/-- Settles O21. -/
theorem interruptCheckServesTheTopRequest : Obligations.InterruptCheckServesTheTopRequest := by
  refine fun s => ⟨checkInterrupt_nil, fun q rest h => ?_⟩
  rcases checkInterrupt_cons h with ⟨hserves, hc⟩ | ⟨hnot, hc⟩ <;> rw [hc]
  · exact ⟨fun _ => entered_enterInterrupt s q rest, fun hnot => absurd hserves hnot⟩
  · exact ⟨fun hserves => absurd hserves hnot, fun _ => rfl⟩

end Sys2Proof.Proofs

/-! PROOFS. The tick, reset and flash (spec/70_reset_and_hazards.md R300 to R304, spec/20_memory.md R54 to R56): the step as one equation
for each run state, the tick of a running machine to which nothing is delivered in terms of the instruction store, the return from an
interrupt, and what leaves STOPPED and FAULTED. -/

namespace Sys2Proof.Proofs

open Sys2Proof.Machine Sys2Proof.Laws Sys2Proof.Spec

/-! ## The tick of a running machine (R303) -/

theorem step_of_running {s : State} (h : s.takeInputs.run = .running) :
    step s = exec (decode s.takeInputs.fetchedWord) s.takeInputs.readyToExecute := by
  unfold step
  rw [h]

/-- Settles O5. -/
theorem stepRunsTheDecodedInstruction : Obligations.StepRunsTheDecodedInstruction := by
  rintro s _ hrun rfl
  exact step_of_running hrun

/-- A fetch changes nothing but the instruction cache (spec/20_memory.md R54). -/
theorem sameButCache_loadInstrPage (s : State) (a : Word) : SameButCache s (s.loadInstrPage a) := by
  unfold SameButCache
  rw [loadInstrPage_frame]

/-- With nothing delivered, the tick of a running machine is in terms of `e`, the state the interrupt check leaves: the store's word at
its `pc` is executed, with that word's page cached and `pc` moved past it. -/
theorem step_of_running_undelivered {s e : State} (hrun : s.run = .running) (hin : s.inputs = []) (hcache : s.cacheAgrees)
    (he : s.checkInterrupt = e) :
    step s = exec (decode (s.ipool.read e.pc.toNat)) { e.loadInstrPage e.pc with pc := e.pc + 1 } := by
  have htake : s.takeInputs = s := takeInputs_nil s hin
  have hready : s.readyToExecute = { e.loadInstrPage e.pc with pc := e.pc + 1 } := by
    unfold State.readyToExecute State.advance
    rw [he, loadInstrPage_pc]
  rw [step_of_running ((congrArg State.run htake).trans hrun), htake, fetchedWord_eq hcache, hready, he]

/-- Settles O6: with nothing pending the interrupt check changes nothing. -/
theorem stepFetchesFromTheInstructionStore : Obligations.StepFetchesFromTheInstructionStore := by
  intro s hrun hin hpend hcache
  have hpc : BitVec.ofNat 16 (s.pc.toNat + 1) = s.pc + 1 := by bv_omega
  refine ⟨s.loadInstrPage s.pc, sameButCache_loadInstrPage s s.pc, loadInstrPage_cacheAgrees s hcache s.pc, ?_⟩
  rw [hpc]
  exact step_of_running_undelivered hrun hin hcache (checkInterrupt_nil hpend)

/-! ## The tick that serves a request, and the return (spec/60_exceptions.md R278, R279) -/

theorem entered_checkInterrupt {s : State} {q : Irq} {rest : List Irq} (hpend : s.pend = q :: rest) (hserves : Serves s q) :
    Entered s s.checkInterrupt q rest :=
  ((interruptCheckServesTheTopRequest s).2 q rest hpend).1 hserves

/-- Settles O22: the check enters the handler, whose address is the vector's entry. -/
theorem interruptedStepRunsTheHandlersFirstInstruction : Obligations.InterruptedStepRunsTheHandlersFirstInstruction := by
  intro s q rest hrun hin hcache hpend hserves
  have he := entered_checkInterrupt hpend hserves
  refine ⟨s.checkInterrupt, _, he, sameButCache_loadInstrPage _ s.checkInterrupt.pc,
    loadInstrPage_cacheAgrees _ (cacheAgrees_checkInterrupt hcache) _, ?_⟩
  rw [← he.handler]
  exact step_of_running_undelivered hrun hin hcache rfl

/-- `t` goes on with the code of `s` that request `q` interrupted, `q` still active and `rest` pending (R279). -/
def ResumesInterrupted (s : State) (q : Irq) (rest : List Irq) (t : State) : Prop :=
  t.pc = s.pc ∧ t.csp = s.csp ∧ t.act = q :: s.act ∧ t.pend = rest ∧ t.sw = s.sw ∧ t.cw = s.cw ∧ t.regs = s.regs ∧ MemoryKept s t

/-- RET 0 pops what the entry pushed, whatever the cache and `pc` have become (R279; spec/41_control.md R127). -/
theorem ret0_resumesInterrupted {s e u : State} {q : Irq} {rest : List Irq} (he : Entered s e q rest) (hu : SameButCache e u)
    (p : Word) : ∃ t, exec .ret0 { u with pc := p } = .next t ∧ ResumesInterrupted s q rest t := by
  have hcsp : s.csp + 1 - 1 = s.csp := BitVec.add_sub_cancel ..
  have hframe : u = { s with cs := e.cs, csp := s.csp + 1, pc := e.pc, pend := rest, act := q :: s.act, icache := u.icache,
                             ipage := u.ipage } := by
    conv_lhs => rw [hu, he.frame]
  have hpop : ({ u with pc := p } : State).csTop = s.pc := by
    rw [hframe]
    exact (congrArg (fun k : BitVec 6 => e.cs.read k.toNat) hcsp).trans he.pushed
  refine ⟨_, rfl, hpop, ?_⟩
  rw [hframe]
  exact ⟨hcsp, rfl, rfl, rfl, rfl, rfl, fun _ => rfl⟩

/-- Settles O23: both parts by `ret0_resumesInterrupted`, the second in the tick of O22. -/
theorem returnFromInterruptResumesAtThePushedAddress : Obligations.ReturnFromInterruptResumesAtThePushedAddress := by
  intro s q rest
  refine ⟨fun e u p he hu => ret0_resumesInterrupted he hu p, fun hrun hin hcache hpend hserves hret => ?_⟩
  obtain ⟨e, t, he, hsame, -, hstep⟩ := interruptedStepRunsTheHandlersFirstInstruction s q rest hrun hin hcache hpend hserves
  rw [hstep, hret]
  exact ret0_resumesInterrupted he hsame (e.pc + 1)

/-! ## Reset, flash and start (spec/20_memory.md R56; R300, R301) -/

theorem flash_ipool_read (s : State) (img : List Word) (a : Nat) : (s.flash img).ipool.read a = img.getD a 0 :=
  read_ofList img a

theorem cacheAgrees_flash (s : State) (img : List Word) : (s.flash img).cacheAgrees := fun i =>
  (read_window (Memory.ofList img) 0 64 i.toNat).trans (if_pos i.isLt)

theorem loadInstrPage_resident {s : State} {a : Word} (h : instrPage a = s.ipage) : s.loadInstrPage a = s := if_pos h

/-- The reset machine after the host has flashed `img` and started the clock. -/
def flashedAndStarted (img : List Word) : State := { State.reset.flash img with run := .running }

/-- The first tick fetches from page 0, which the flash has cached. -/
theorem step_flashedAndStarted (img : List Word) :
    step (flashedAndStarted img) = exec (decode (img.getD 0 0)) { flashedAndStarted img with pc := 1 } := by
  have hcache : (flashedAndStarted img).cacheAgrees := cacheAgrees_flash State.reset img
  have hword : (flashedAndStarted img).ipool.read (0 : Word).toNat = img.getD 0 0 := flash_ipool_read State.reset img 0
  have hpage : (flashedAndStarted img).loadInstrPage 0 = flashedAndStarted img := loadInstrPage_resident rfl
  have hpc : (flashedAndStarted img).pc = 0 := rfl
  have hnext : (0 : Word) + 1 = 1 := rfl
  have hidle : (flashedAndStarted img).checkInterrupt = flashedAndStarted img := checkInterrupt_nil rfl
  rw [step_of_running_undelivered rfl rfl hcache hidle, hpc, hword, hpage, hnext]

/-- Settles O13. -/
theorem flashLoadsTheWholeStore : Obligations.FlashLoadsTheWholeStore := fun s img _ =>
  ⟨fun a => flash_ipool_read s img a.toNat, rfl, cacheAgrees_flash s img, rfl, step_flashedAndStarted img⟩

/-! ## What a step can answer (R303, R304; spec/60_exceptions.md R284) -/

/-- A step faults with DomainFault in a FAULTED machine, and answers a next state in every other. -/
theorem step_answers (s : State) :
    (s.takeInputs.run = .faulted ∧ step s = .fault .domainFault) ∨ (s.takeInputs.run ≠ .faulted ∧ ∃ t, step s = .next t) := by
  cases hrun : s.takeInputs.run with
  | running =>
    obtain ⟨t, ht, -⟩ := exec_effect (decode s.takeInputs.fetchedWord) s.takeInputs.readyToExecute
    exact .inr ⟨nofun, t, (step_of_running hrun).trans ht⟩
  | paused => exact .inr ⟨nofun, _, step_of_paused hrun⟩
  | stopped => exact .inr ⟨nofun, _, step_of_stopped hrun⟩
  | faulted =>
    refine .inl ⟨rfl, ?_⟩
    unfold step
    rw [hrun]

theorem step_ne_refused (s : State) (r : Refusal) : step s ≠ .refused r := by
  rcases step_answers s with ⟨-, h⟩ | ⟨-, t, h⟩ <;> rw [h] <;> exact nofun

theorem step_fault_iff (s : State) (f : Fault) : step s = .fault f ↔ s.takeInputs.run = .faulted := by
  rcases step_answers s with ⟨hrun, h⟩ | ⟨hrun, t, h⟩ <;> rw [h]
  · exact iff_of_true rfl hrun
  · exact iff_of_false nofun hrun

/-! ## STOPPED and FAULTED are left by reset only (R304; spec/10_state.md R36) -/

/-- The run states that only reset leaves. -/
def Halted (r : RunState) : Prop := r = .stopped ∨ r = .faulted

theorem Halted.not_clocked {r : RunState} (h : Halted r) : ¬ (r = .running ∨ r = .paused) := by
  rcases h with rfl | rfl <;> decide

theorem deliver_run_of_halted {s : State} (h : Halted s.run) (e : EnvEvent) : (s.deliver e).run = s.run := by
  obtain ⟨-, -, -, hstart, -, hpause, hstop, hfaulted, -⟩ := environmentEventsDoWhatTheRulesSay s
  cases e with
  | irqRequest | activePop | portNotify => rfl
  | start => rw [hstart fun hpaused => h.not_clocked (.inr hpaused)]
  | pause => rw [hpause fun hrunning => h.not_clocked (.inl hrunning)]
  | stop =>
    rcases h with h | h
    · rw [hstop (by rw [h]; decide), h]
    · rw [hfaulted h]

theorem deliver_all_run_of_halted (es : List EnvEvent) {s : State} (h : Halted s.run) :
    (es.foldl State.deliver s).run = s.run := by
  induction es generalizing s with
  | nil => rfl
  | cons e es ih =>
    have he := deliver_run_of_halted h e
    exact (ih (he.symm ▸ h)).trans he

theorem takeInputs_run_of_halted {s : State} (h : Halted s.run) : s.takeInputs.run = s.run := by
  cases hin : s.inputs with
  | nil => rw [takeInputs_nil s hin]
  | cons batch rest =>
    rw [takeInputs_cons hin]
    exact deliver_all_run_of_halted batch (s := { s with inputs := rest }) h

/-- A halted machine is not running, so its step takes the inputs and does nothing else. -/
theorem step_run_of_halted {s t : State} (h : Halted s.run) (ht : step s = .next t) : t.run = s.run := by
  have hrun := takeInputs_run_of_halted h
  rcases step_cases ht with ⟨hrunning, -⟩ | ⟨-, rfl⟩
  · exact absurd (.inl (hrun.symm.trans hrunning)) h.not_clocked
  · exact hrun

/-- Direct execution answers a next state in one halted machine only, the STOPPED one, and keeps it so. -/
theorem directExec_run_of_halted {w : Word} {s t : State} (h : Halted s.run) (ht : directExec w s = .next t) : t.run = s.run := by
  rcases directExec_cases ht with ⟨hrun, -⟩ | ⟨hrun, _, -, -, rfl⟩
  · exact absurd hrun h.not_clocked
  · exact hrun.symm

/-! ## Direct execution by run state (spec/10_state.md R24, decision D40) -/

theorem directExec_of_clocked (w : Word) {s : State} (h : s.run = .running ∨ s.run = .paused) :
    directExec w s = exec (decode w) s := by
  unfold directExec
  rcases h with h | h <;> rw [h]

theorem directExec_of_stopped (w : Word) {s t : State} (h : s.run = .stopped) (ht : exec (decode w) s = .next t) :
    directExec w s = if t.run = .faulted then .fault .domainFault else .next { t with run := .stopped } := by
  unfold directExec
  rw [h, ht]
  rfl

theorem directExec_of_faulted (w : Word) {s : State} (h : s.run = .faulted) : directExec w s = .fault .domainFault := by
  unfold directExec
  rw [h]

/-- Settles O7. -/
theorem stepOutcomesFollowTheRunState : Obligations.StepOutcomesFollowTheRunState := by
  refine fun s => ⟨step_ne_refused s, step_fault_iff s, ?idle, fun hrun => ?runs, fun h => ?halted, rfl, fun w => ?direct⟩
  case idle =>
    rintro (hpaused | hstopped)
    · exact step_of_paused hpaused
    · exact step_of_stopped hstopped
  case runs =>
    obtain ⟨hfaulted, -⟩ | ⟨-, hnext⟩ := step_answers s
    · cases hrun.symm.trans hfaulted
    · exact hnext
  case halted =>
    exact ⟨deliver_run_of_halted h, takeInputs_run_of_halted h, fun _ => step_run_of_halted h,
      fun _ _ => directExec_run_of_halted h⟩
  case direct =>
    obtain ⟨t, ht, -⟩ := exec_effect (decode w) s
    exact ⟨directExec_of_clocked w, fun hrun => ⟨t, ht, directExec_of_stopped w hrun ht⟩, directExec_of_faulted w⟩

end Sys2Proof.Proofs
